-- ==== Sys2Proof/Word.lean ====
section
/-! DEFINITION. The two word types of BSYNC: stream bytes and registers. -/

namespace Sys2Proof

/-- One stream byte; bit 7 is the first bit in transmission order (R13). -/
abbrev Byte := BitVec 8

/-- One register value (R30, R82: every register is a 32-bit number). -/
abbrev Word := BitVec 32

end Sys2Proof
end

