-- ==== Sys2Proof/Config.lean ====
section
/-! DEFINITION. What the spec leaves open: the two build parameters (R10) and the interleaving of the
agents (R84 (d)). The constants the spec fixes (R11) are in Machine/Constants.lean. -/

namespace Sys2Proof

/-- The two OPEN parameters of R10. Each is held as its distance from its least legal value, so that a
value outside the constraint cannot be written: `1 ≤ BLOCK_MAX ≤ 65535` and `Q_DEPTH ≥ 2`. -/
structure Params where
  /-- BLOCK_MAX − 1 -/
  blockMaxPred : Fin 65535
  /-- Q_DEPTH − 2 -/
  qDepthExtra : Nat
  deriving DecidableEq, Repr, Inhabited

/-- BLOCK_MAX: the largest legal BSIZE and the largest byte item of ports PI and FI (R10). -/
def Params.blockMax (p : Params) : Nat := p.blockMaxPred.val + 1

/-- Q_DEPTH: the capacity, in items, of each of the eight ports (R10). -/
def Params.qDepth (p : Params) : Nat := p.qDepthExtra + 2

/-- The five agents (R370). -/
inductive Agent where
  | host
  | sync
  | pn
  | fp
  | tc
  deriving DecidableEq, Repr, Inhabited

/-- DESIGN CHOICE (notes/assumptions/2.md). The parameters after reset: a free constant, because R10 gives
them no value. -/
opaque Config.params : Params

/-- DESIGN CHOICE (notes/assumptions/1.md). Which agent moves when no turn has been chosen: a free value,
because R84 (d) lets agents interleave arbitrarily. -/
opaque Config.freeAgent : Nat → Agent

end Sys2Proof
end

