-- ==== Sys2Proof/Syntax.lean ====
section
/-! DEFINITION. The operations of BSYNC (R2), one constructor per row of the opcode map (R103), and the
transaction in which an operation is presented (R100). -/

namespace Sys2Proof

/-- An operation as it is presented: its 24-bit descriptor and the operand that travels with it (R100).
`value` is the 32-bit value of REG.WR and CMD, `bytes` the byte list of a PUSH of Data or Tc. An operation
that takes no such operand ignores the field (notes/assumptions/6.md). -/
structure Transaction where
  desc : BitVec 24
  value : Word
  bytes : List Byte
  deriving DecidableEq, Repr

/-- The operations of R103, with their operands. The PUSH, POP, REG and CMD rows are host transactions; the
SYNC, PN, FP and TC rows are unit steps. -/
inductive Instr where
  /-- R323 -/
  | pushSiByte (b : Byte)
  /-- R324 -/
  | pushSiEnd
  /-- R325 -/
  | pushSiIoErr
  /-- R326 -/
  | pushPiData (B : List Byte)
  /-- R327 -/
  | pushPiEnd
  /-- R328 -/
  | pushPiIoErr
  /-- R329 -/
  | pushFiData (B : List Byte)
  /-- R330 -/
  | pushFiEnd
  /-- R331 -/
  | pushFiIoErr
  /-- R332 -/
  | pushTiTc (B : List Byte)
  /-- R333 -/
  | popBo
  /-- R334 -/
  | popPo
  /-- R335 -/
  | popFo
  /-- R336 -/
  | popTo
  /-- R337 -/
  | regRd (i : BitVec 4)
  /-- R338; with `i = 15` and a value that names no command, the reserved command of R343 -/
  | regWr (i : BitVec 4) (v : Word)
  /-- R339 -/
  | cmdNop
  /-- R340 -/
  | cmdSyncRestart
  /-- R341 -/
  | cmdVcClear
  /-- R342 -/
  | cmdSoftReset
  /-- R152 -/
  | syncByte (b : Byte)
  /-- R153 -/
  | syncEnd
  /-- R154 -/
  | syncIoErr
  /-- R203 -/
  | pnData
  /-- R204 -/
  | pnEnd
  /-- R205 -/
  | pnIoErr
  /-- R232 -/
  | fpData
  /-- R237 -/
  | fpEnd
  /-- R238 -/
  | fpIoErr
  /-- R280 -/
  | tcDecode
  deriving DecidableEq, Repr

end Sys2Proof
end

