-- ==== Sys2Proof/WellFormed.lean ====
section
/-! DEFINITION. Which operations exist: the checks on operands that do not depend on the state. -/

namespace Sys2Proof

/-- The value written to CMD names a command (R112): bits 31:8 are zero and the code is 0 to 3. -/
def namesCommand (v : Word) : Bool := decide (v.toNat < 4)

/-- A well-formed operation. A Tc item has at most 9 bytes and a Data item at most BLOCK_MAX ≤ 65535 (R105,
R321, R10; the exact bound BLOCK_MAX is checked against the state, `admits`); a REG.WR to index 15 is the
reserved command, since a value that names a command is that command's own row (R103). -/
def Instr.wf : Instr → Bool
  | .pushPiData B => decide (B.length ≤ 65535)
  | .pushFiData B => decide (B.length ≤ 65535)
  | .pushTiTc B => decide (B.length ≤ 9)
  | .regWr i v => !(i == 15#4 && namesCommand v)
  | .pushSiByte _ | .pushSiEnd | .pushSiIoErr | .pushPiEnd | .pushPiIoErr | .pushFiEnd | .pushFiIoErr
  | .popBo | .popPo | .popFo | .popTo | .regRd _
  | .cmdNop | .cmdSyncRestart | .cmdVcClear | .cmdSoftReset
  | .syncByte _ | .syncEnd | .syncIoErr | .pnData | .pnEnd | .pnIoErr
  | .fpData | .fpEnd | .fpIoErr | .tcDecode => true

end Sys2Proof
end

