-- ==== Sys2Proof/Decode.lean ====
section
/-! DEFINITION. The decoder, from the match and mask columns of the opcode map (R103), and the encoder, from
the descriptor's fields (R100 to R102). The two are written from different tables of the spec, so that
their agreement is worth stating. -/

namespace Sys2Proof

/-! ### The descriptor's fields (R100) -/

/-- PORT, bits 23:16. -/
def descPort (d : BitVec 24) : BitVec 8 := d.extractLsb' 16 8

/-- A, bit 15: false for a host transaction, true for a unit step. -/
def descA (d : BitVec 24) : Bool := d.getLsbD 15

/-- TAG, bits 14:8. -/
def descTag (d : BitVec 24) : BitVec 7 := d.extractLsb' 8 7

/-- SUB, bits 7:0. -/
def descSub (d : BitVec 24) : BitVec 8 := d.extractLsb' 0 8

/-- A descriptor from its fields (R100). -/
def mkDesc (port : BitVec 8) (a : Bool) (tag : BitVec 7) (sub : BitVec 8) : BitVec 24 :=
  port ++ BitVec.ofBool a ++ tag ++ sub

/-! ### Decoding (R103) -/

/-- A value written to CMD (R103, R112): codes 0 to 3 with bits 31:8 zero are the four commands; any other
value is the reserved command of R343, which has no row and stays a write of index 15. -/
def decodeCommand (v : Word) : Instr :=
  if v = 0#32 then .cmdNop
  else if v = 1#32 then .cmdSyncRestart
  else if v = 2#32 then .cmdVcClear
  else if v = 3#32 then .cmdSoftReset
  else .regWr 15#4 v

/-- The REG.WR row: index 15 is a command (R103). -/
def decodeRegWr (i : BitVec 4) (v : Word) : Instr :=
  if i = 15#4 then decodeCommand v else .regWr i v

/-- The index field `i` of a REG descriptor, bits 3:0. -/
def descIndex (d : BitVec 24) : BitVec 4 := d.extractLsb' 0 4

/-- One row of the opcode map: a descriptor `d` is this row's when `d AND mask = pat`. -/
structure OpcodeRow where
  mask : BitVec 24
  pat : BitVec 24
  build : Transaction → Instr

/-- The host rows of R103. -/
def hostRows : List OpcodeRow :=
  [ ⟨0xFFFF00#24, 0x010000#24, fun t => .pushSiByte (descSub t.desc)⟩,
    ⟨0xFFFFFF#24, 0x010100#24, fun _ => .pushSiEnd⟩,
    ⟨0xFFFFFF#24, 0x010200#24, fun _ => .pushSiIoErr⟩,
    ⟨0xFFFFFF#24, 0x030000#24, fun t => .pushPiData t.bytes⟩,
    ⟨0xFFFFFF#24, 0x030100#24, fun _ => .pushPiEnd⟩,
    ⟨0xFFFFFF#24, 0x030200#24, fun _ => .pushPiIoErr⟩,
    ⟨0xFFFFFF#24, 0x050000#24, fun t => .pushFiData t.bytes⟩,
    ⟨0xFFFFFF#24, 0x050100#24, fun _ => .pushFiEnd⟩,
    ⟨0xFFFFFF#24, 0x050200#24, fun _ => .pushFiIoErr⟩,
    ⟨0xFFFFFF#24, 0x070000#24, fun t => .pushTiTc t.bytes⟩,
    ⟨0xFFFFFF#24, 0x020000#24, fun _ => .popBo⟩,
    ⟨0xFFFFFF#24, 0x040000#24, fun _ => .popPo⟩,
    ⟨0xFFFFFF#24, 0x060000#24, fun _ => .popFo⟩,
    ⟨0xFFFFFF#24, 0x080000#24, fun _ => .popTo⟩,
    ⟨0xFFFFF0#24, 0x100000#24, fun t => .regRd (descIndex t.desc)⟩,
    ⟨0xFFFFF0#24, 0x100100#24, fun t => decodeRegWr (descIndex t.desc) t.value⟩,
    ⟨0xFFFFFF#24, 0x110000#24, fun _ => .cmdNop⟩,
    ⟨0xFFFFFF#24, 0x110001#24, fun _ => .cmdSyncRestart⟩,
    ⟨0xFFFFFF#24, 0x110002#24, fun _ => .cmdVcClear⟩,
    ⟨0xFFFFFF#24, 0x110003#24, fun _ => .cmdSoftReset⟩ ]

/-- The unit rows of R103. -/
def unitRows : List OpcodeRow :=
  [ ⟨0xFFFF00#24, 0x018000#24, fun t => .syncByte (descSub t.desc)⟩,
    ⟨0xFFFFFF#24, 0x018100#24, fun _ => .syncEnd⟩,
    ⟨0xFFFFFF#24, 0x018200#24, fun _ => .syncIoErr⟩,
    ⟨0xFFFFFF#24, 0x038000#24, fun _ => .pnData⟩,
    ⟨0xFFFFFF#24, 0x038100#24, fun _ => .pnEnd⟩,
    ⟨0xFFFFFF#24, 0x038200#24, fun _ => .pnIoErr⟩,
    ⟨0xFFFFFF#24, 0x058000#24, fun _ => .fpData⟩,
    ⟨0xFFFFFF#24, 0x058100#24, fun _ => .fpEnd⟩,
    ⟨0xFFFFFF#24, 0x058200#24, fun _ => .fpIoErr⟩,
    ⟨0xFFFFFF#24, 0x078000#24, fun _ => .tcDecode⟩ ]

/-- The opcode map of R103, all 30 rows. -/
def opcodeTable : List OpcodeRow := hostRows ++ unitRows

/-- A descriptor is a row's. -/
def OpcodeRow.hits (d : BitVec 24) (r : OpcodeRow) : Bool := d &&& r.mask == r.pat

/-- Why a descriptor spells no operation (the list of R104 (a)). The names are the model's
(notes/assumptions/17.md). -/
inductive DecodeError where
  /-- PORT is none of R101's -/
  | reservedPort
  /-- A = 1 on an output port, or on the register or command space -/
  | noUnitThere
  /-- REG with SUB[7:4] ≠ 0 -/
  | registerIndex
  /-- a CMD code 0x04 to 0xFF -/
  | commandCode
  /-- TAG 0x06 to 0x7F on an item port (R102) -/
  | reservedTag
  /-- a TAG for which the port or space has no transaction and no unit step -/
  | tagNotCarried
  /-- SUB is not 0 where R100 wants 0 -/
  | subNotZero
  deriving DecidableEq, Repr

/-- The named reason for a descriptor that matches no row (R104 (a)). -/
def decodeError (d : BitVec 24) : DecodeError :=
  let port := (descPort d).toNat
  let tag := (descTag d).toNat
  let item := decide (1 ≤ port ∧ port ≤ 8)
  if !item && port != 0x10 && port != 0x11 then .reservedPort
  else if descA d && (!item || port % 2 == 0) then .noUnitThere
  else if port == 0x10 then (if tag < 2 then .registerIndex else .tagNotCarried)
  else if port == 0x11 then (if tag == 0 then .commandCode else .tagNotCarried)
  else if 6 ≤ tag then .reservedTag
  else if 0 < tag && (port % 2 == 0 || port == 7 || 2 < tag) then .tagNotCarried
  else .subNotZero

/-- The decoder: total, and a descriptor that matches no row is rejected by name (R104 (a)). -/
def decode (t : Transaction) : Except DecodeError Instr :=
  match opcodeTable.find? (OpcodeRow.hits t.desc) with
  | some r => .ok (r.build t)
  | none => .error (decodeError t.desc)

/-- The operation the decoder reads from a descriptor numbered as opcode_table.json numbers it, with operand
words of zeros (value 0, no bytes). A number of more than 24 bits is no descriptor (R113). -/
def decodeTableWord (_nbits w : Nat) : Option Instr :=
  if w < 2 ^ 24 then
    match decode ⟨BitVec.ofNat 24 w, 0#32, []⟩ with
    | .ok i => some i
    | .error _ => none
  else none

/-! ### Encoding (R100 to R102) -/

/-- The PORT value of each port and space (R101). -/
inductive Space where
  | si | bo | pi | po | fi | fo | ti | tout | reg | cmd
  deriving DecidableEq, Repr

/-- R101. -/
def Space.number : Space → BitVec 8
  | .si => 0x01#8
  | .bo => 0x02#8
  | .pi => 0x03#8
  | .po => 0x04#8
  | .fi => 0x05#8
  | .fo => 0x06#8
  | .ti => 0x07#8
  | .tout => 0x08#8
  | .reg => 0x10#8
  | .cmd => 0x11#8

/-- TAG values (R102). -/
def tagData : BitVec 7 := 0x00#7
/-- R102. -/
def tagEnd : BitVec 7 := 0x01#7
/-- R102. -/
def tagIoErr : BitVec 7 := 0x02#7
/-- R102, on FO only. -/
def tagGap : BitVec 7 := 0x03#7
/-- R102, on FO only. -/
def tagMalformed : BitVec 7 := 0x04#7
/-- R102, on TO only. -/
def tagTcErr : BitVec 7 := 0x05#7

/-- A host descriptor (A = 0). -/
def hostDesc (p : Space) (tag : BitVec 7) (sub : BitVec 8) : BitVec 24 := mkDesc p.number false tag sub

/-- A unit step's descriptor (A = 1): that of the item at the head of the port the unit reads (R100). -/
def unitDesc (p : Space) (tag : BitVec 7) (sub : BitVec 8) : BitVec 24 := mkDesc p.number true tag sub

/-- The register index as a SUB byte: bits 7:4 are 0 (R100). -/
def subOfIndex (i : BitVec 4) : BitVec 8 := 0#4 ++ i

/-- The encoder (R100 to R102): a command carries the word it is the write of (R112). -/
def encode : Instr → Transaction
  | .pushSiByte b => ⟨hostDesc .si tagData b, 0#32, []⟩
  | .pushSiEnd => ⟨hostDesc .si tagEnd 0#8, 0#32, []⟩
  | .pushSiIoErr => ⟨hostDesc .si tagIoErr 0#8, 0#32, []⟩
  | .pushPiData B => ⟨hostDesc .pi tagData 0#8, 0#32, B⟩
  | .pushPiEnd => ⟨hostDesc .pi tagEnd 0#8, 0#32, []⟩
  | .pushPiIoErr => ⟨hostDesc .pi tagIoErr 0#8, 0#32, []⟩
  | .pushFiData B => ⟨hostDesc .fi tagData 0#8, 0#32, B⟩
  | .pushFiEnd => ⟨hostDesc .fi tagEnd 0#8, 0#32, []⟩
  | .pushFiIoErr => ⟨hostDesc .fi tagIoErr 0#8, 0#32, []⟩
  | .pushTiTc B => ⟨hostDesc .ti tagData 0#8, 0#32, B⟩
  | .popBo => ⟨hostDesc .bo tagData 0#8, 0#32, []⟩
  | .popPo => ⟨hostDesc .po tagData 0#8, 0#32, []⟩
  | .popFo => ⟨hostDesc .fo tagData 0#8, 0#32, []⟩
  | .popTo => ⟨hostDesc .tout tagData 0#8, 0#32, []⟩
  | .regRd i => ⟨hostDesc .reg 0x00#7 (subOfIndex i), 0#32, []⟩
  | .regWr i v => ⟨hostDesc .reg 0x01#7 (subOfIndex i), v, []⟩
  | .cmdNop => ⟨hostDesc .cmd 0#7 0x00#8, 0#32, []⟩
  | .cmdSyncRestart => ⟨hostDesc .cmd 0#7 0x01#8, 1#32, []⟩
  | .cmdVcClear => ⟨hostDesc .cmd 0#7 0x02#8, 2#32, []⟩
  | .cmdSoftReset => ⟨hostDesc .cmd 0#7 0x03#8, 3#32, []⟩
  | .syncByte b => ⟨unitDesc .si tagData b, 0#32, []⟩
  | .syncEnd => ⟨unitDesc .si tagEnd 0#8, 0#32, []⟩
  | .syncIoErr => ⟨unitDesc .si tagIoErr 0#8, 0#32, []⟩
  | .pnData => ⟨unitDesc .pi tagData 0#8, 0#32, []⟩
  | .pnEnd => ⟨unitDesc .pi tagEnd 0#8, 0#32, []⟩
  | .pnIoErr => ⟨unitDesc .pi tagIoErr 0#8, 0#32, []⟩
  | .fpData => ⟨unitDesc .fi tagData 0#8, 0#32, []⟩
  | .fpEnd => ⟨unitDesc .fi tagEnd 0#8, 0#32, []⟩
  | .fpIoErr => ⟨unitDesc .fi tagIoErr 0#8, 0#32, []⟩
  | .tcDecode => ⟨unitDesc .ti tagData 0#8, 0#32, []⟩

end Sys2Proof
end

