-- ==== Sys2Proof/Machine/State.lean ====
section
/-! DEFINITION. The state of BSYNC (10_state.md; reset values 70_reset_and_hazards.md R400), the items its
ports carry (R105), the host agent's own state, and the ways a step can stop. -/

namespace Sys2Proof.Machine

/-! ### Items (R18, R105) -/

/-- Items of port SI. -/
inductive SiItem where
  | byte (b : Byte)
  | endMark
  | ioErr
  deriving DecidableEq, Repr

/-- Items of ports BO, PI, PO and FI. -/
inductive BlockItem where
  | data (B : List Byte)
  | endMark
  | ioErr
  deriving DecidableEq, Repr

/-- The `Frame` record (R105), field by field. -/
structure FrameRec where
  version : BitVec 2
  scid : BitVec 8
  vcid : BitVec 6
  key : BitVec 14
  counter : BitVec 24
  signal : BitVec 8
  replay : BitVec 1
  vcfcUsage : BitVec 1
  sigSpare : BitVec 2
  vcfcCycle : BitVec 4
  mpduSpare : BitVec 5
  fhp : BitVec 11
  fhpNone : Bool
  payload : List Byte
  frameLen : BitVec 16
  first : Bool
  gap : Bool
  missing : BitVec 24
  deriving DecidableEq, Repr

/-- The `Gap` record (R105). -/
structure GapRec where
  scid : BitVec 8
  vcid : BitVec 6
  key : BitVec 14
  last : BitVec 24
  counter : BitVec 24
  missing : BitVec 24
  deriving DecidableEq, Repr

/-- Why a frame is malformed (R231). Its item carries the code of the reason (`MalformedReason.code`). -/
inductive MalformedReason where
  | short
  | cfg
  deriving DecidableEq, Repr

/-- Items of port FO. `reason` is a u2 (R105): 1 SHORT, 2 CFG. -/
inductive FoItem where
  | frame (r : FrameRec)
  | gap (r : GapRec)
  | malformed (reason : BitVec 2) (len : BitVec 16)
  | endMark
  | ioErr
  deriving DecidableEq, Repr

/-- Items of port TI. -/
inductive TiItem where
  | tc (B : List Byte)
  deriving DecidableEq, Repr

/-- The `Time` record (R105). `unixUs` and `unixS` are s64, in two's complement; `tUs` is below 2^53. -/
structure TimeRec where
  day : BitVec 16
  ms : BitVec 32
  us : BitVec 16
  rsv : BitVec 8
  tUs : BitVec 53
  unixUs : BitVec 64
  unixS : BitVec 64
  unixFrac : BitVec 20
  year : BitVec 16
  month : BitVec 4
  mday : BitVec 5
  hour : BitVec 5
  minute : BitVec 6
  second : BitVec 6
  usec : BitVec 20
  deriving DecidableEq, Repr

/-- Items of port TO. -/
inductive ToItem where
  | time (r : TimeRec)
  | tcErr (len : BitVec 4)
  deriving DecidableEq, Repr

/-! ### The block -/

/-- The registers with storage (R30 to R39). `sticky` is STATUS bits 13:8; the other STATUS bits are computed
at each read (R35 to R37). -/
structure Regs where
  ctrl : Word
  blockSize : Word
  mpduOffset : Word
  trailerLen : Word
  sticky : BitVec 6
  streamPos : Word
  asmCount : Word
  blockCount : Word
  skipCount : Word
  frameCount : Word
  gapCount : Word
  malformedCount : Word
  tcCount : Word
  deriving DecidableEq, Repr

/-- st.sync_state (R43). -/
inductive SyncState where
  | search
  | collect
  | done
  | failed
  deriving DecidableEq, Repr

/-- SYNC's internal state (R43). -/
structure SyncUnit where
  state : SyncState
  win : List Byte
  buf : List Byte
  curBsize : BitVec 16
  deriving DecidableEq, Repr

/-- The VC table (R45): the entries with vc_valid[k] = 1 as pairs (k, vc_last[k]), keys strictly rising. A key
that is not listed has vc_valid[k] = 0, and its vc_last[k], unspecified and never read, is not held
(notes/assumptions/7.md). -/
abbrev VcTable := List (BitVec 14 × BitVec 24)

/-- The eight FIFO ports (R47), each with its oldest item first. `tout` is port TO (`to` is a Lean keyword). -/
structure Ports where
  si : List SiItem
  bo : List BlockItem
  pi : List BlockItem
  po : List BlockItem
  fi : List BlockItem
  fo : List FoItem
  ti : List TiItem
  tout : List ToItem
  deriving DecidableEq, Repr

/-! ### The host agent -/

/-- What a POP or a REG.RD returned to the host (R100). -/
inductive Reply where
  | bo (x : BlockItem)
  | po (x : BlockItem)
  | fo (x : FoItem)
  | tout (x : ToItem)
  | reg (v : Word)
  deriving DecidableEq, Repr

/-- The host's side: the transactions it has still to take, in program order (R320, R84 (c)), and what its
transactions returned, oldest first (notes/assumptions/4.md, 5.md). -/
structure HostSide where
  pending : List Transaction
  replies : List Reply
  deriving DecidableEq, Repr

/-! ### The machine -/

/-- The machine. `regs`, `sync`, `vc` and `ports` are the block, everything R400 lists; `params` are the build
parameters of R10; `host` is the host agent; `schedule` and `tick` are the model's own and say which agent
moves next (notes/assumptions/1.md). -/
structure State where
  regs : Regs
  sync : SyncUnit
  vc : VcTable
  ports : Ports
  params : Params
  host : HostSide
  schedule : List Agent
  tick : Nat
  deriving DecidableEq, Repr

/-- Register reset values (R400). -/
def Regs.reset : Regs where
  ctrl := 0#32
  blockSize := 0#32
  mpduOffset := 6#32
  trailerLen := 0#32
  sticky := 0#6
  streamPos := 0#32
  asmCount := 0#32
  blockCount := 0#32
  skipCount := 0#32
  frameCount := 0#32
  gapCount := 0#32
  malformedCount := 0#32
  tcCount := 0#32

/-- SYNC's reset state (R400): SEARCH, empty window and buffer, st.cur_bsize 0. -/
def SyncUnit.reset : SyncUnit := ⟨.search, [], [], 0#16⟩

/-- The ports after reset (R400): empty. -/
def Ports.reset : Ports := ⟨[], [], [], [], [], [], [], []⟩

/-- The machine right after reset. The block is as R400 lists it. DESIGN CHOICE (notes/assumptions/1.md,
2.md, 4.md, 5.md): the parameters are the free constant, the host has nothing to do and has received
nothing, and no turn has been chosen. -/
def State.reset : State where
  regs := Regs.reset
  sync := SyncUnit.reset
  vc := []
  ports := Ports.reset
  params := Config.params
  host := ⟨[], []⟩
  schedule := []
  tick := 0

/-! ### Stops -/

/-- Faults. There is none: BSYNC has no trap mechanism, and every event leaves the machine running (R365,
notes/assumptions/18.md). What R360 calls an event is an item and a sticky bit. -/
inductive Fault where
  deriving DecidableEq, Repr

/-- Refusals: what is no operation of the block. -/
inductive Refusal where
  /-- Raised by `exec` for an instruction that has no meaning yet. Safe. -/
  | notModelled (mnemonic : String)
  /-- Raised by `step` when the host presents a descriptor that matches no row of the opcode map: no such
  transaction exists (R104 (a)). Safe. -/
  | invalidDescriptor (reason : DecodeError)
  /-- Raised by `step` when the host presents a unit step's descriptor: a unit step is no host transaction
  (R2, R100). Safe. -/
  | notAHostTransaction
  /-- Raised by PUSH.PI.DATA, PUSH.FI.DATA and PUSH.TI.TC for an item the port cannot carry (R321; 92 D32: the
  model refuses the transaction rather than truncating). Safe. -/
  | itemTooLong
  deriving DecidableEq, Repr

end Sys2Proof.Machine
end

