-- ==== Sys2Proof/Machine/Constants.lean ====
section
/-! DEFINITION. The constants the spec fixes (R11). -/

namespace Sys2Proof.Machine

/-- ASM, the attached sync marker `1A CF FC 1D` in stream order (R11, R106). -/
def asm : List Byte := [0x1A#8, 0xCF#8, 0xFC#8, 0x1D#8]

/-- ASM_LEN (R11). -/
def asmLen : Nat := 4

/-- PH_LEN: primary-header bytes (R11). -/
def phLen : Nat := 6

/-- MPDU_HDR_LEN (R11). -/
def mpduHdrLen : Nat := 2

/-- FHP_NONE: no packet header begins in this frame (R11, R109). -/
def fhpNoneValue : BitVec 11 := 0x7FF#11

/-- TC_LEN: bytes of a timecode (R11). -/
def tcLen : Nat := 9

/-- PN_PERIOD, in bits, and so the period of the PN bytes in bytes (R11, R200). -/
def pnPeriod : Nat := 255

/-- EPOCH_UNIX_OFFSET in seconds: 1958-01-01 as Unix time (R11, R284). -/
def epochUnixOffset : Int := -378691200

/-- Microseconds of a day of 86 400 s (R283). -/
def usPerDay : Nat := 86400000000

/-- Days from 1958-01-01 to 1970-01-01 (R286). -/
def daysToUnixEpoch : Nat := 4383

end Sys2Proof.Machine
end

