-- ==== Sys2Proof/Machine/Operands.lean ====
section
/-! DEFINITION. How operands are read: bytes and big-endian fields of an item (R14, R81), the fields of the
configuration registers (R31 to R34), and the frame header (R107 to R110). -/

namespace Sys2Proof.Machine

/-! ### Big-endian readers (R14) -/

/-- `B[i]`. Every rule reads inside the list; past its end the reader gives 0 (notes/assumptions/20.md). -/
def byteAt (B : List Byte) (i : Nat) : Byte := B.getD i 0#8

/-- `be16(B, i)`. -/
def be16 (B : List Byte) (i : Nat) : BitVec 16 := byteAt B i ++ byteAt B (i + 1)

/-- `be24(B, i)`. -/
def be24 (B : List Byte) (i : Nat) : BitVec 24 := byteAt B i ++ byteAt B (i + 1) ++ byteAt B (i + 2)

/-- `be32(B, i)`. -/
def be32 (B : List Byte) (i : Nat) : BitVec 32 :=
  byteAt B i ++ byteAt B (i + 1) ++ byteAt B (i + 2) ++ byteAt B (i + 3)

/-! ### Register fields (R31 to R34) -/

/-- CTRL.SYNC_EN, bit 0. -/
def State.syncEn (s : State) : Bool := s.regs.ctrl.getLsbD 0

/-- CTRL.CHAIN_PN, bit 1. -/
def State.chainPn (s : State) : Bool := s.regs.ctrl.getLsbD 1

/-- CTRL.CHAIN_FP, bit 2. -/
def State.chainFp (s : State) : Bool := s.regs.ctrl.getLsbD 2

/-- BLOCK_SIZE.BSIZE, bits 15:0. -/
def State.bsize (s : State) : BitVec 16 := s.regs.blockSize.extractLsb' 0 16

/-- MPDU_OFFSET.MO, bits 15:0. -/
def State.mo (s : State) : BitVec 16 := s.regs.mpduOffset.extractLsb' 0 16

/-- TRAILER_LEN.TL, bits 15:0. -/
def State.tl (s : State) : BitVec 16 := s.regs.trailerLen.extractLsb' 0 16

/-- BSIZE is legal: `1 ≤ BSIZE ≤ BLOCK_MAX` (R32). -/
def State.bsizeLegal (s : State) : Bool :=
  decide (0 < s.bsize.toNat) && !(decide (s.params.blockMax < s.bsize.toNat))

/-! ### The frame header (R107 to R110) -/

/-- version, H0[7:6] (R108). -/
def frameVersion (B : List Byte) : BitVec 2 := (byteAt B 0).extractLsb' 6 2

/-- scid, H0[5:0] :: H1[7:6] (R108). -/
def frameScid (B : List Byte) : BitVec 8 := (byteAt B 0).extractLsb' 0 6 ++ (byteAt B 1).extractLsb' 6 2

/-- vcid, H1[5:0] (R108). -/
def frameVcid (B : List Byte) : BitVec 6 := (byteAt B 1).extractLsb' 0 6

/-- The VC key `scid·64 + vcid`: the two fields joined (R45, R105). -/
def vcKey (scid : BitVec 8) (vcid : BitVec 6) : BitVec 14 := scid ++ vcid

/-- key of a frame. -/
def frameKey (B : List Byte) : BitVec 14 := vcKey (frameScid B) (frameVcid B)

/-- counter, be24(B, 2) (R108). -/
def frameCounter (B : List Byte) : BitVec 24 := be24 B 2

/-- signal, H5 (R108). -/
def frameSignal (B : List Byte) : BitVec 8 := byteAt B 5

/-- mpdu_spare, M0[7:3] with M0 = B[MO] (R109). -/
def frameMpduSpare (B : List Byte) (mo : Nat) : BitVec 5 := (byteAt B mo).extractLsb' 3 5

/-- fhp, M0[2:0] :: M1 (R109). -/
def frameFhp (B : List Byte) (mo : Nat) : BitVec 11 := (byteAt B mo).extractLsb' 0 3 ++ byteAt B (mo + 1)

/-- The payload `B[MO+2 .. L−TL)` (R110). -/
def framePayload (B : List Byte) (mo tl : Nat) : List Byte :=
  (B.drop (mo + mpduHdrLen)).take (B.length - (mo + mpduHdrLen + tl))

/-- The u2 that a `Malformed` item records as its reason (R105, R231, R360): SHORT = 1, CFG = 2. -/
def MalformedReason.code : MalformedReason → BitVec 2
  | .short => 1#2
  | .cfg => 2#2

/-- A frame's class (R231): CFG is tested before SHORT. -/
def frameFailure (B : List Byte) (mo tl : Nat) : Option MalformedReason :=
  if mo < phLen then some .cfg
  else if B.length < mo + mpduHdrLen + tl then some .short
  else none

end Sys2Proof.Machine
end

