-- ==== Sys2Proof/Machine/Ops.lean ====
section
/-! DEFINITION. The operations that the meanings share: ports (R16, R47), counters (R38, R39), the VC table
(R45), raising an event (R17, R360), resets (R340, R341, R400) and the host's replies (R100). -/

namespace Sys2Proof.Machine

/-! ### One setter per part of the state -/

/-- Replace the registers. -/
def State.setRegs (s : State) (r : Regs) : State := { s with regs := r }
/-- Replace SYNC's internal state. -/
def State.setSync (s : State) (u : SyncUnit) : State := { s with sync := u }
/-- Replace the VC table. -/
def State.setVc (s : State) (v : VcTable) : State := { s with vc := v }
/-- Replace the ports. -/
def State.setPorts (s : State) (p : Ports) : State := { s with ports := p }
/-- Replace the host's side. -/
def State.setHost (s : State) (h : HostSide) : State := { s with host := h }

/-! ### Ports (R16) -/

/-- `space(Q) ≥ n` for a port that holds the items `q`: Q_DEPTH − len(Q) ≥ n. -/
def State.room {α : Type} (s : State) (q : List α) (n : Nat) : Bool :=
  !(decide (s.params.qDepth < q.length + n))

/-- `push(SI, x)`. -/
def State.pushSi (s : State) (x : SiItem) : State := s.setPorts { s.ports with si := s.ports.si ++ [x] }
/-- `push(BO, x)`. -/
def State.pushBo (s : State) (x : BlockItem) : State := s.setPorts { s.ports with bo := s.ports.bo ++ [x] }
/-- `push(PI, x)`. -/
def State.pushPi (s : State) (x : BlockItem) : State := s.setPorts { s.ports with pi := s.ports.pi ++ [x] }
/-- `push(PO, x)`. -/
def State.pushPo (s : State) (x : BlockItem) : State := s.setPorts { s.ports with po := s.ports.po ++ [x] }
/-- `push(FI, x)`. -/
def State.pushFi (s : State) (x : BlockItem) : State := s.setPorts { s.ports with fi := s.ports.fi ++ [x] }
/-- `push(FO, x)`. -/
def State.pushFo (s : State) (x : FoItem) : State := s.setPorts { s.ports with fo := s.ports.fo ++ [x] }
/-- `push(TI, x)`. -/
def State.pushTi (s : State) (x : TiItem) : State := s.setPorts { s.ports with ti := s.ports.ti ++ [x] }
/-- `push(TO, x)`. -/
def State.pushTo (s : State) (x : ToItem) : State := s.setPorts { s.ports with tout := s.ports.tout ++ [x] }

/-- `pop(SI)`, without its result. -/
def State.popSi (s : State) : State := s.setPorts { s.ports with si := s.ports.si.tail }
/-- `pop(BO)`. -/
def State.popBo (s : State) : State := s.setPorts { s.ports with bo := s.ports.bo.tail }
/-- `pop(PI)`. -/
def State.popPi (s : State) : State := s.setPorts { s.ports with pi := s.ports.pi.tail }
/-- `pop(PO)`. -/
def State.popPo (s : State) : State := s.setPorts { s.ports with po := s.ports.po.tail }
/-- `pop(FI)`. -/
def State.popFi (s : State) : State := s.setPorts { s.ports with fi := s.ports.fi.tail }
/-- `pop(FO)`. -/
def State.popFo (s : State) : State := s.setPorts { s.ports with fo := s.ports.fo.tail }
/-- `pop(TI)`. -/
def State.popTi (s : State) : State := s.setPorts { s.ports with ti := s.ports.ti.tail }
/-- `pop(TO)`. -/
def State.popTo (s : State) : State := s.setPorts { s.ports with tout := s.ports.tout.tail }

/-- The items of SYNC's output port `tgt`: PI if CHAIN_PN = 1, else BO (R151). -/
def State.syncOut (s : State) : List BlockItem := if s.chainPn then s.ports.pi else s.ports.bo

/-- `push(tgt, x)` for SYNC (R151). -/
def State.pushSyncOut (s : State) (x : BlockItem) : State := if s.chainPn then s.pushPi x else s.pushBo x

/-- The items of PN's output port `tgt`: FI if CHAIN_FP = 1, else PO (R207). -/
def State.pnOut (s : State) : List BlockItem := if s.chainFp then s.ports.fi else s.ports.po

/-- `push(tgt, x)` for PN (R207). -/
def State.pushPnOut (s : State) (x : BlockItem) : State := if s.chainFp then s.pushFi x else s.pushPo x

/-! ### Counters (R38, R39): each wraps modulo 2^32 -/

/-- STREAM_POS + 1. -/
def State.bumpStreamPos (s : State) : State := s.setRegs { s.regs with streamPos := s.regs.streamPos + 1#32 }
/-- ASM_COUNT + 1. -/
def State.bumpAsm (s : State) : State := s.setRegs { s.regs with asmCount := s.regs.asmCount + 1#32 }
/-- BLOCK_COUNT + 1. -/
def State.bumpBlock (s : State) : State := s.setRegs { s.regs with blockCount := s.regs.blockCount + 1#32 }
/-- SKIP_COUNT + 1. -/
def State.bumpSkip (s : State) : State := s.setRegs { s.regs with skipCount := s.regs.skipCount + 1#32 }
/-- FRAME_COUNT + 1. -/
def State.bumpFrame (s : State) : State := s.setRegs { s.regs with frameCount := s.regs.frameCount + 1#32 }
/-- GAP_COUNT + 1. -/
def State.bumpGap (s : State) : State := s.setRegs { s.regs with gapCount := s.regs.gapCount + 1#32 }
/-- MALFORMED_COUNT + 1. -/
def State.bumpMalformed (s : State) : State :=
  s.setRegs { s.regs with malformedCount := s.regs.malformedCount + 1#32 }
/-- TC_COUNT + 1. -/
def State.bumpTc (s : State) : State := s.setRegs { s.regs with tcCount := s.regs.tcCount + 1#32 }

/-! ### The VC table (R45) -/

/-- The canonical form: keys strictly rising. -/
abbrev VcTable.wf (v : VcTable) : Prop := v.Pairwise (fun a b => a.1 < b.1)

/-- vc_last[k] where vc_valid[k] = 1, and none where vc_valid[k] = 0. -/
def VcTable.last (v : VcTable) (k : BitVec 14) : Option (BitVec 24) :=
  (v.find? (fun e => e.1 == k)).map (fun e => e.2)

/-- `vc_valid[k] <- 1; vc_last[k] <- c`. -/
def VcTable.record (v : VcTable) (k : BitVec 14) (c : BitVec 24) : VcTable :=
  match v with
  | [] => [(k, c)]
  | e :: rest =>
    if k < e.1 then (k, c) :: e :: rest
    else if k = e.1 then (k, c) :: rest
    else e :: VcTable.record rest k c

/-! ### Events (R17, R360)

BSYNC has no trap mechanism (R365): nothing is saved, no mode changes and no control is transferred. What stands
in the place of exception entry is this one operation, and in the place of return the host's W1C write. -/

/-- The events that have a cause code (R360). -/
inductive Event where
  | ioErr
  | trunc
  | malformed
  | gap
  | tcErr
  | cmdErr
  deriving DecidableEq, Repr

/-- The cause code: the bit index of the event's STATUS flag (R360). -/
def Event.causeCode : Event → Nat
  | .ioErr => 8
  | .trunc => 9
  | .malformed => 10
  | .gap => 11
  | .tcErr => 12
  | .cmdErr => 13

/-- The TAG of the item that carries the event in band (R360); CMD_ERR has none. -/
def Event.itemTag : Event → Option (BitVec 7)
  | .ioErr => some tagIoErr
  | .trunc => some tagEnd
  | .malformed => some tagMalformed
  | .gap => some tagGap
  | .tcErr => some tagTcErr
  | .cmdErr => none

/-- The event's bit within STATUS bits 13:8. -/
def Event.bit (e : Event) : BitVec 6 := 1#6 <<< (e.causeCode - 8)

/-- `raise EVENT`: set the sticky STATUS bit; the step goes on and pushes the item its rule names (R17). -/
def State.raiseEvent (s : State) (e : Event) : State := s.setRegs { s.regs with sticky := s.regs.sticky ||| e.bit }

/-- A write of `v` to STATUS: the sticky bits written as 1 are cleared, other bits are ignored (R338). -/
def State.clearSticky (s : State) (v : Word) : State :=
  s.setRegs { s.regs with sticky := s.regs.sticky &&& ~~~(v.extractLsb' 8 6) }

/-! ### Resets -/

/-- The body of CMD.SYNC_RESTART (R340). -/
def State.syncRestart (s : State) : State :=
  (s.setSync SyncUnit.reset).setRegs
    { s.regs with streamPos := 0#32, asmCount := 0#32, blockCount := 0#32, skipCount := 0#32 }

/-- The body of CMD.VC_CLEAR (R341). -/
def State.vcClear (s : State) : State :=
  (s.setVc []).setRegs { s.regs with frameCount := 0#32, gapCount := 0#32, malformedCount := 0#32 }

/-- The reset of R400: every piece of the block. The parameters and the agents outside the block are no part
of it (notes/assumptions/8.md). -/
def State.resetBlock (s : State) : State :=
  { s with regs := Regs.reset, sync := SyncUnit.reset, vc := [], ports := Ports.reset }

/-- Hardware reset: its effect is that of CMD.SOFT_RESET (R401). An input of the outside world, which may come
between any two steps (notes/assumptions/16.md). -/
def State.hardwareReset (s : State) : State := s.resetBlock

/-! ### The host's side -/

/-- A value returned to the host (R100). -/
def State.reply (s : State) (r : Reply) : State := s.setHost { s.host with replies := s.host.replies ++ [r] }

/-! ### Outcomes -/

/-- R17: an enabled step performs its whole body; one whose guard does not hold is a wait, which changes
nothing and is no error (notes/assumptions/3.md). -/
def whenEnabled (guard : Bool) (body s : State) : Host.Outcome State Fault Refusal :=
  .next (if guard then body else s)

end Sys2Proof.Machine
end

