-- ==== Sys2Proof/Machine/Guards.lean ====
section
/-! DEFINITION. The guards: when each operation can fire (R17). The unit guards are also what STATUS.IDLE is
computed from (R37). -/

namespace Sys2Proof.Machine

/-! ### SYNC (R150 to R154) -/

/-- `st.sync_state ∈ {SEARCH, COLLECT}`. -/
def SyncState.active : SyncState → Bool
  | .search | .collect => true
  | .done | .failed => false

/-- SYNC_ACTIVE (R150). In COLLECT the latched size is used and BSIZE is not consulted. -/
def State.syncActive (s : State) : Bool :=
  s.syncEn && s.sync.state.active && (s.sync.state == .collect || s.bsizeLegal) && !s.ports.si.isEmpty

/-- The next byte completes the block in collection (R152). -/
def State.completesBlock (s : State) : Bool :=
  s.sync.state == .collect && s.sync.buf.length + 1 == s.sync.curBsize.toNat

/-- SYNC.BYTE (R152): the byte that would complete a block waits until the output port has room. -/
def guardSyncByte (b : Byte) (s : State) : Bool :=
  s.syncActive && s.ports.si.head? == some (.byte b) && !(s.completesBlock && !(s.room s.syncOut 1))

/-- SYNC.END (R153). -/
def guardSyncEnd (s : State) : Bool :=
  s.syncActive && s.ports.si.head? == some .endMark && s.room s.syncOut 1

/-- SYNC.IOERR (R154). -/
def guardSyncIoErr (s : State) : Bool :=
  s.syncActive && s.ports.si.head? == some .ioErr && s.room s.syncOut 1

/-! ### PN (R203 to R205) -/

/-- The item is `Data(B)` for some B. -/
def BlockItem.isData : BlockItem → Bool
  | .data _ => true
  | .endMark | .ioErr => false

/-- PN.DATA (R203). -/
def guardPnData (s : State) : Bool := s.ports.pi.head?.any BlockItem.isData && s.room s.pnOut 1

/-- PN.END (R204). -/
def guardPnEnd (s : State) : Bool := s.ports.pi.head? == some .endMark && s.room s.pnOut 1

/-- PN.IOERR (R205). -/
def guardPnIoErr (s : State) : Bool := s.ports.pi.head? == some .ioErr && s.room s.pnOut 1

/-! ### FP (R232, R237, R238) -/

/-- FP.DATA (R232, R230): two free slots, whether the step emits one item or two. -/
def guardFpData (s : State) : Bool := s.ports.fi.head?.any BlockItem.isData && s.room s.ports.fo 2

/-- FP.END (R237). -/
def guardFpEnd (s : State) : Bool := s.ports.fi.head? == some .endMark && s.room s.ports.fo 1

/-- FP.IOERR (R238). -/
def guardFpIoErr (s : State) : Bool := s.ports.fi.head? == some .ioErr && s.room s.ports.fo 1

/-! ### TC (R280) -/

/-- TC.DECODE (R280): every item of TI is a `Tc(B)`. -/
def guardTcDecode (s : State) : Bool := !s.ports.ti.isEmpty && s.room s.ports.tout 1

/-! ### All operations -/

/-- What a port can carry at all (R321): the bound on a pushed item's length. -/
def admits (i : Instr) (s : State) : Bool :=
  match i with
  | .pushPiData B => !(decide (s.params.blockMax < B.length))
  | .pushFiData B => !(decide (s.params.blockMax < B.length))
  | .pushTiTc B => !(decide (tcLen < B.length))
  | .pushSiByte _ | .pushSiEnd | .pushSiIoErr | .pushPiEnd | .pushPiIoErr | .pushFiEnd | .pushFiIoErr
  | .popBo | .popPo | .popFo | .popTo | .regRd _ | .regWr _ _
  | .cmdNop | .cmdSyncRestart | .cmdVcClear | .cmdSoftReset
  | .syncByte _ | .syncEnd | .syncIoErr | .pnData | .pnEnd | .pnIoErr
  | .fpData | .fpEnd | .fpIoErr | .tcDecode => true

/-- The guard of each operation (R17): pushes need a free slot and pops an item (R321); register accesses and
commands are always enabled (R337 to R343). -/
def guard (i : Instr) (s : State) : Bool :=
  match i with
  | .pushSiByte _ | .pushSiEnd | .pushSiIoErr => s.room s.ports.si 1
  | .pushPiData _ | .pushPiEnd | .pushPiIoErr => s.room s.ports.pi 1
  | .pushFiData _ | .pushFiEnd | .pushFiIoErr => s.room s.ports.fi 1
  | .pushTiTc _ => s.room s.ports.ti 1
  | .popBo => !s.ports.bo.isEmpty
  | .popPo => !s.ports.po.isEmpty
  | .popFo => !s.ports.fo.isEmpty
  | .popTo => !s.ports.tout.isEmpty
  | .regRd _ | .regWr _ _ | .cmdNop | .cmdSyncRestart | .cmdVcClear | .cmdSoftReset => true
  | .syncByte b => guardSyncByte b s
  | .syncEnd => guardSyncEnd s
  | .syncIoErr => guardSyncIoErr s
  | .pnData => guardPnData s
  | .pnEnd => guardPnEnd s
  | .pnIoErr => guardPnIoErr s
  | .fpData => guardFpData s
  | .fpEnd => guardFpEnd s
  | .fpIoErr => guardFpIoErr s
  | .tcDecode => guardTcDecode s

/-- The operation waits: the port could carry it, and its guard does not hold (R17, R321). -/
def waits (i : Instr) (s : State) : Bool := admits i s && !guard i s

/-- The agent whose step an operation is (R2, R370). -/
def agentOf : Instr → Agent
  | .pushSiByte _ | .pushSiEnd | .pushSiIoErr | .pushPiData _ | .pushPiEnd | .pushPiIoErr
  | .pushFiData _ | .pushFiEnd | .pushFiIoErr | .pushTiTc _
  | .popBo | .popPo | .popFo | .popTo | .regRd _ | .regWr _ _
  | .cmdNop | .cmdSyncRestart | .cmdVcClear | .cmdSoftReset => .host
  | .syncByte _ | .syncEnd | .syncIoErr => .sync
  | .pnData | .pnEnd | .pnIoErr => .pn
  | .fpData | .fpEnd | .fpIoErr => .fp
  | .tcDecode => .tc

end Sys2Proof.Machine
end

