-- ==== Sys2Proof/Machine/Flags.lean ====
section
/-! DEFINITION. The STATUS bits that are computed at every read (R35 to R37), and STATUS as a word. -/

namespace Sys2Proof.Machine

/-- STATUS.SYNC_STATE (R35, R43). -/
def SyncState.code : SyncState → BitVec 2
  | .search => 0#2
  | .collect => 1#2
  | .done => 2#2
  | .failed => 3#2

/-- STATUS.CFG_ERR (R36). -/
def State.cfgErr (s : State) : Bool := s.syncEn && s.sync.state == .search && !s.bsizeLegal

/-- SYNC has an enabled step: the guard of the operation that the head item of SI selects. -/
def State.syncEnabled (s : State) : Bool :=
  match s.ports.si.head? with
  | some (.byte b) => guardSyncByte b s
  | some .endMark => guardSyncEnd s
  | some .ioErr => guardSyncIoErr s
  | none => false

/-- STATUS.IDLE (R37): none of the ten unit operations has its guard true. -/
def State.idle (s : State) : Bool :=
  !(s.syncEnabled || guardPnData s || guardPnEnd s || guardPnIoErr s
    || guardFpData s || guardFpEnd s || guardFpIoErr s || guardTcDecode s)

/-- STATUS as REG.RD returns it (R35, R337): bits 31:14 and 7:4 read 0. -/
def State.statusWord (s : State) : Word :=
  0#18 ++ s.regs.sticky ++ 0#4 ++ BitVec.ofBool s.idle ++ BitVec.ofBool s.cfgErr ++ s.sync.state.code

end Sys2Proof.Machine
end

