-- ==== Sys2Proof/Machine/Fp.lean ====
section
/-! DEFINITION. The frame parser's steps (R231, R232, R237, R238). -/

namespace Sys2Proof.Machine

/-- The counter is not the successor, modulo 2^24, of the last one of its key; a key without a last one has no
gap (R232). -/
def isGap (last : Option (BitVec 24)) (counter : BitVec 24) : Bool :=
  match last with
  | none => false
  | some l => counter != l + 1#24

/-- The missing count `(counter − last − 1) mod 2^24` of a gap, and 0 where there is none (R232). -/
def missingCount (last : Option (BitVec 24)) (counter : BitVec 24) : BitVec 24 :=
  match last with
  | none => 0#24
  | some l => if counter != l + 1#24 then counter - l - 1#24 else 0#24

/-- The `Gap` item of a frame whose key's last counter is `last` (R232). -/
def gapRecord (B : List Byte) (last : BitVec 24) : GapRec where
  scid := frameScid B
  vcid := frameVcid B
  key := frameKey B
  last := last
  counter := frameCounter B
  missing := missingCount (some last) (frameCounter B)

/-- The `Frame` item of a well-formed frame (R232): every field is reported as read (R240). -/
def frameRecord (B : List Byte) (mo tl : Nat) (last : Option (BitVec 24)) : FrameRec where
  version := frameVersion B
  scid := frameScid B
  vcid := frameVcid B
  key := frameKey B
  counter := frameCounter B
  signal := frameSignal B
  replay := (frameSignal B).extractLsb' 7 1
  vcfcUsage := (frameSignal B).extractLsb' 6 1
  sigSpare := (frameSignal B).extractLsb' 4 2
  vcfcCycle := (frameSignal B).extractLsb' 0 4
  mpduSpare := frameMpduSpare B mo
  fhp := frameFhp B mo
  fhpNone := frameFhp B mo == fhpNoneValue
  payload := framePayload B mo tl
  frameLen := BitVec.ofNat 16 B.length
  first := last.isNone
  gap := isGap last (frameCounter B)
  missing := missingCount last (frameCounter B)

/-- A malformed frame (R231, R232, R360): its item with the reason's code and the frame length, its flag and counter; the VC table is left alone. -/
def State.malformedFrame (s : State) (reason : MalformedReason) (len : Nat) : State :=
  ((s.pushFo (.malformed reason.code (BitVec.ofNat 16 len))).raiseEvent .malformed).bumpMalformed

/-- The `Gap` item, flag and counter, where the counter skips (R232). -/
def State.reportGap (s : State) (B : List Byte) (last : Option (BitVec 24)) : State :=
  match last with
  | none => s
  | some l =>
    if isGap (some l) (frameCounter B) then
      ((s.pushFo (.gap (gapRecord B l))).raiseEvent .gap).bumpGap
    else s

/-- A well-formed frame (R232): the gap report first, then the table, then the `Frame` item. -/
def State.goodFrame (s : State) (B : List Byte) (mo tl : Nat) : State :=
  let last := s.vc.last (frameKey B)
  let s1 := s.reportGap B last
  let s2 := s1.setVc (s1.vc.record (frameKey B) (frameCounter B))
  (s2.pushFo (.frame (frameRecord B mo tl last))).bumpFrame

/-- One frame, read with MO and TL as sampled at this step (R231, R232). -/
def State.parseFrame (s : State) (B : List Byte) : State :=
  match frameFailure B s.mo.toNat s.tl.toNat with
  | some reason => s.malformedFrame reason B.length
  | none => s.goodFrame B s.mo.toNat s.tl.toNat

/-- The body of FP.DATA (R232) on the frame at the head of FI. -/
def State.fpDataBody (s : State) : State :=
  match s.ports.fi with
  | .data B :: _ => s.popFi.parseFrame B
  | _ => s

/-- FP.DATA (R232). -/
def execFpData (s : State) : Host.Outcome State Fault Refusal :=
  whenEnabled (guardFpData s) s.fpDataBody s

/-- FP.END (R237): the VC table is not cleared. -/
def execFpEnd (s : State) : Host.Outcome State Fault Refusal :=
  whenEnabled (guardFpEnd s) (s.popFi.pushFo .endMark) s

/-- FP.IOERR (R238). -/
def execFpIoErr (s : State) : Host.Outcome State Fault Refusal :=
  whenEnabled (guardFpIoErr s) (s.popFi.pushFo .ioErr) s

end Sys2Proof.Machine
end

