-- ==== Sys2Proof/Machine/HostPop.lean ====
section
/-! DEFINITION. The POP transactions (R321, R333 to R336). A pop from an empty port waits. -/

namespace Sys2Proof.Machine

/-- POP.BO (R333). -/
def execPopBo (s : State) : Host.Outcome State Fault Refusal :=
  match s.ports.bo with
  | x :: _ => .next (s.popBo.reply (.bo x))
  | [] => .next s

/-- POP.PO (R334). -/
def execPopPo (s : State) : Host.Outcome State Fault Refusal :=
  match s.ports.po with
  | x :: _ => .next (s.popPo.reply (.po x))
  | [] => .next s

/-- POP.FO (R335). -/
def execPopFo (s : State) : Host.Outcome State Fault Refusal :=
  match s.ports.fo with
  | x :: _ => .next (s.popFo.reply (.fo x))
  | [] => .next s

/-- POP.TO (R336). -/
def execPopTo (s : State) : Host.Outcome State Fault Refusal :=
  match s.ports.tout with
  | x :: _ => .next (s.popTo.reply (.tout x))
  | [] => .next s

end Sys2Proof.Machine
end

