-- ==== Sys2Proof/Machine/HostPush.lean ====
section
/-! DEFINITION. The PUSH transactions (R321, R323 to R332). -/

namespace Sys2Proof.Machine

/-- PUSH.SI.BYTE (R323). -/
def execPushSiByte (b : Byte) (s : State) : Host.Outcome State Fault Refusal :=
  whenEnabled (s.room s.ports.si 1) (s.pushSi (.byte b)) s

/-- PUSH.SI.END (R324). -/
def execPushSiEnd (s : State) : Host.Outcome State Fault Refusal :=
  whenEnabled (s.room s.ports.si 1) (s.pushSi .endMark) s

/-- PUSH.SI.IOERR (R325): no flag is set when it is pushed. -/
def execPushSiIoErr (s : State) : Host.Outcome State Fault Refusal :=
  whenEnabled (s.room s.ports.si 1) (s.pushSi .ioErr) s

/-- PUSH.PI.DATA (R326). An item longer than BLOCK_MAX is refused, never truncated (R321, 92 D32;
notes/assumptions/11.md). -/
def execPushPiData (B : List Byte) (s : State) : Host.Outcome State Fault Refusal :=
  if s.params.blockMax < B.length then .refused .itemTooLong
  else whenEnabled (s.room s.ports.pi 1) (s.pushPi (.data B)) s

/-- PUSH.PI.END (R327). -/
def execPushPiEnd (s : State) : Host.Outcome State Fault Refusal :=
  whenEnabled (s.room s.ports.pi 1) (s.pushPi .endMark) s

/-- PUSH.PI.IOERR (R328). -/
def execPushPiIoErr (s : State) : Host.Outcome State Fault Refusal :=
  whenEnabled (s.room s.ports.pi 1) (s.pushPi .ioErr) s

/-- PUSH.FI.DATA (R329). An item longer than BLOCK_MAX is refused, never truncated (R321, 92 D32). -/
def execPushFiData (B : List Byte) (s : State) : Host.Outcome State Fault Refusal :=
  if s.params.blockMax < B.length then .refused .itemTooLong
  else whenEnabled (s.room s.ports.fi 1) (s.pushFi (.data B)) s

/-- PUSH.FI.END (R330). -/
def execPushFiEnd (s : State) : Host.Outcome State Fault Refusal :=
  whenEnabled (s.room s.ports.fi 1) (s.pushFi .endMark) s

/-- PUSH.FI.IOERR (R331). -/
def execPushFiIoErr (s : State) : Host.Outcome State Fault Refusal :=
  whenEnabled (s.room s.ports.fi 1) (s.pushFi .ioErr) s

/-- PUSH.TI.TC (R332). An item longer than 9 bytes is refused, never truncated (R321, 92 D32). -/
def execPushTiTc (B : List Byte) (s : State) : Host.Outcome State Fault Refusal :=
  if tcLen < B.length then .refused .itemTooLong
  else whenEnabled (s.room s.ports.ti 1) (s.pushTi (.tc B)) s

end Sys2Proof.Machine
end

