-- ==== Sys2Proof/Machine/HostReg.lean ====
section
/-! DEFINITION. The register transactions (R337, R338) and the commands (R339 to R343). -/

namespace Sys2Proof.Machine

/-- The value REG.RD returns (R337). -/
def State.readReg (s : State) (i : BitVec 4) : Word :=
  match i.toNat with
  | 0 => (s.regs.ctrl.extractLsb' 0 3).setWidth 32
  | 1 => s.bsize.setWidth 32
  | 2 => s.mo.setWidth 32
  | 3 => s.tl.setWidth 32
  | 4 => s.statusWord
  | 5 => s.regs.streamPos
  | 6 => s.regs.asmCount
  | 7 => s.regs.blockCount
  | 8 => s.regs.skipCount
  | 9 => s.regs.frameCount
  | 10 => s.regs.gapCount
  | 11 => s.regs.malformedCount
  | 12 => s.regs.tcCount
  | _ => 0#32

/-- A write to CMD (R339 to R343): bits 7:0 are the code and bits 31:8 must be 0; any other value sets
STATUS.CMD_ERR and changes nothing else. -/
def State.command (s : State) (v : Word) : State :=
  if v = 0#32 then s
  else if v = 1#32 then s.syncRestart
  else if v = 2#32 then s.vcClear
  else if v = 3#32 then s.resetBlock
  else s.raiseEvent .cmdErr

/-- The effect of REG.WR (R338): reserved bits are dropped, STATUS is write-one-to-clear, the counters and the
reserved indices ignore writes, and index 15 is a command. -/
def State.writeReg (s : State) (i : BitVec 4) (v : Word) : State :=
  match i.toNat with
  | 0 => s.setRegs { s.regs with ctrl := (v.extractLsb' 0 3).setWidth 32 }
  | 1 => s.setRegs { s.regs with blockSize := (v.extractLsb' 0 16).setWidth 32 }
  | 2 => s.setRegs { s.regs with mpduOffset := (v.extractLsb' 0 16).setWidth 32 }
  | 3 => s.setRegs { s.regs with trailerLen := (v.extractLsb' 0 16).setWidth 32 }
  | 4 => s.clearSticky v
  | 15 => s.command v
  | _ => s

/-- REG.RD (R337): no side effect on any register. -/
def execRegRd (i : BitVec 4) (s : State) : Host.Outcome State Fault Refusal :=
  .next (s.reply (.reg (s.readReg i)))

/-- REG.WR (R338; with index 15 R339 to R343). -/
def execRegWr (i : BitVec 4) (v : Word) (s : State) : Host.Outcome State Fault Refusal :=
  .next (s.writeReg i v)

/-- CMD.NOP (R339). -/
def execCmdNop (s : State) : Host.Outcome State Fault Refusal := .next s

/-- CMD.SYNC_RESTART (R340). -/
def execCmdSyncRestart (s : State) : Host.Outcome State Fault Refusal := .next s.syncRestart

/-- CMD.VC_CLEAR (R341). -/
def execCmdVcClear (s : State) : Host.Outcome State Fault Refusal := .next s.vcClear

/-- CMD.SOFT_RESET (R342). -/
def execCmdSoftReset (s : State) : Host.Outcome State Fault Refusal := .next s.resetBlock

end Sys2Proof.Machine
end

