-- ==== Sys2Proof/Machine/Pn.lean ====
section
/-! DEFINITION. The derandomizer's steps (R203 to R205), with the generator register of R201. -/

namespace Sys2Proof.Machine

/-- One bit step of `lfsr` (R201). -/
def lfsrStep (l : BitVec 8) : BitVec 8 :=
  let fb := (l.getLsbD 7 ^^ l.getLsbD 4) ^^ (l.getLsbD 2 ^^ l.getLsbD 0)
  l.extractLsb' 0 7 ++ BitVec.ofBool fb

/-- Eight bit steps: from one PN byte to the next (R201). -/
def lfsrByteStep (l : BitVec 8) : BitVec 8 :=
  lfsrStep (lfsrStep (lfsrStep (lfsrStep (lfsrStep (lfsrStep (lfsrStep (lfsrStep l)))))))

/-- `lfsr` at the start of every block (R44, R201). -/
def lfsrInit : BitVec 8 := 0xFF#8

/-- A block XORed with the sequence that starts at register value `l`: at a byte boundary `lfsr` is the next PN
byte (R201). -/
def pnFrom (l : BitVec 8) : List Byte → List Byte
  | [] => []
  | b :: rest => (b ^^^ l) :: pnFrom (lfsrByteStep l) rest

/-- The block `C` of R203. -/
def pn (B : List Byte) : List Byte := pnFrom lfsrInit B

/-- The body of PN.DATA (R203) on the block at the head of PI. -/
def State.pnDataBody (s : State) : State :=
  match s.ports.pi with
  | .data B :: _ => s.popPi.pushPnOut (.data (pn B))
  | _ => s

/-- PN.DATA (R203). -/
def execPnData (s : State) : Host.Outcome State Fault Refusal :=
  whenEnabled (guardPnData s) s.pnDataBody s

/-- PN.END (R204). -/
def execPnEnd (s : State) : Host.Outcome State Fault Refusal :=
  whenEnabled (guardPnEnd s) (s.popPi.pushPnOut .endMark) s

/-- PN.IOERR (R205): STATUS.IO_ERR is not set. -/
def execPnIoErr (s : State) : Host.Outcome State Fault Refusal :=
  whenEnabled (guardPnIoErr s) (s.popPi.pushPnOut .ioErr) s

end Sys2Proof.Machine
end

