-- ==== Sys2Proof/Machine/Sync.lean ====
section
/-! DEFINITION. The synchronizer's steps (R152 to R154). -/

namespace Sys2Proof.Machine

/-- The byte `b` in SEARCH (R152): the window slides by one byte, and a window equal to the marker starts a
block whose size is latched here. -/
def State.searchByte (s : State) (b : Byte) : State :=
  let w := s.sync.win ++ [b]
  let slides := w.length == 5
  let w' := if slides then w.drop 1 else w
  let s1 := if slides then s.bumpSkip else s
  if w' = asm then (s1.setSync ⟨.collect, [], [], s1.bsize⟩).bumpAsm
  else s1.setSync { s1.sync with win := w' }

/-- The byte `b` in COLLECT (R152): the block is emitted with its last byte, and its bytes are never searched. -/
def State.collectByte (s : State) (b : Byte) : State :=
  let buf := s.sync.buf ++ [b]
  if buf.length = s.sync.curBsize.toNat then
    ((s.pushSyncOut (.data buf)).setSync { s.sync with buf := [], state := .search }).bumpBlock
  else s.setSync { s.sync with buf := buf }

/-- The body of SYNC.BYTE (R152). -/
def State.syncByteBody (s : State) (b : Byte) : State :=
  let s1 := s.popSi.bumpStreamPos
  if s.sync.state = .search then s1.searchByte b else s1.collectByte b

/-- The body of SYNC.END (R153): a block in collection is discarded and sets TRUNC. -/
def State.syncEndBody (s : State) : State :=
  let s1 := if s.sync.state = .collect then s.popSi.raiseEvent .trunc else s.popSi
  (s1.setSync { s1.sync with buf := [], win := [], state := .done }).pushSyncOut .endMark

/-- The body of SYNC.IOERR (R154): a block in collection is discarded without TRUNC. -/
def State.syncIoErrBody (s : State) : State :=
  let s1 := s.popSi
  ((s1.setSync { s1.sync with buf := [], win := [], state := .failed }).raiseEvent .ioErr).pushSyncOut .ioErr

/-- SYNC.BYTE (R152). -/
def execSyncByte (b : Byte) (s : State) : Host.Outcome State Fault Refusal :=
  whenEnabled (guardSyncByte b s) (s.syncByteBody b) s

/-- SYNC.END (R153). -/
def execSyncEnd (s : State) : Host.Outcome State Fault Refusal :=
  whenEnabled (guardSyncEnd s) s.syncEndBody s

/-- SYNC.IOERR (R154). -/
def execSyncIoErr (s : State) : Host.Outcome State Fault Refusal :=
  whenEnabled (guardSyncIoErr s) s.syncIoErrBody s

end Sys2Proof.Machine
end

