-- ==== Sys2Proof/Machine/Tc.lean ====
section
/-! DEFINITION. The timecode converter's step (R280 to R286). All arithmetic is exact on Nat and Int, and each
result is narrowed once, to the width of its field (R105). -/

namespace Sys2Proof.Machine

/-- A proleptic Gregorian date. -/
structure CivilDate where
  year : Nat
  month : Nat
  mday : Nat
  deriving DecidableEq, Repr

/-- `civil(D)`: the date D days after 1958-01-01, by the algorithm of R286. -/
def civil (D : Nat) : CivilDate :=
  let z := D + 719468 - daysToUnixEpoch
  let era := z / 146097
  let doe := z - era * 146097
  let yoe := (doe - doe / 1460 + doe / 36524 - doe / 146096) / 365
  let doy := doe - (365 * yoe + yoe / 4 - yoe / 100)
  let mp := (5 * doy + 2) / 153
  let mday := doy - (153 * mp + 2) / 5 + 1
  let month := if mp < 10 then mp + 3 else mp - 9
  { year := yoe + era * 400 + (if month ≤ 2 then 1 else 0), month := month, mday := mday }

/-- The instant `t_us`: microseconds since EPOCH (R283). No range is checked: a surplus carries (R282). -/
def instantUs (day : BitVec 16) (ms : BitVec 32) (us : BitVec 16) : Nat :=
  day.toNat * usPerDay + ms.toNat * 1000 + us.toNat

/-- `unix_us` (R284). -/
def unixMicros (t : Nat) : Int := (t : Int) + epochUnixOffset * 1000000

/-- The `Time` record of a 9-byte timecode (R280, R281, R284, R285). -/
def timeRecord (B : List Byte) : TimeRec :=
  let day := be16 B 0
  let ms := be32 B 2
  let us := be16 B 6
  let t := instantUs day ms us
  let u := unixMicros t
  let date := civil (t / usPerDay)
  let r := t % usPerDay
  { day := day
    ms := ms
    us := us
    rsv := byteAt B 8
    tUs := BitVec.ofNat 53 t
    unixUs := BitVec.ofInt 64 u
    unixS := BitVec.ofInt 64 (u / 1000000)
    unixFrac := BitVec.ofInt 20 (u % 1000000)
    year := BitVec.ofNat 16 date.year
    month := BitVec.ofNat 4 date.month
    mday := BitVec.ofNat 5 date.mday
    hour := BitVec.ofNat 5 (r / 3600000000)
    minute := BitVec.ofNat 6 (r / 60000000 % 60)
    second := BitVec.ofNat 6 (r / 1000000 % 60)
    usec := BitVec.ofNat 20 (r % 1000000) }

/-- One timecode (R280): a short one is an event, a full one a `Time` item. -/
def State.convertTime (s : State) (B : List Byte) : State :=
  if B.length < tcLen then
    (s.pushTo (.tcErr (BitVec.ofNat 4 B.length))).raiseEvent .tcErr
  else (s.pushTo (.time (timeRecord B))).bumpTc

/-- The body of TC.DECODE (R280) on the item at the head of TI. -/
def State.tcDecodeBody (s : State) : State :=
  match s.ports.ti with
  | .tc B :: _ => s.popTi.convertTime B
  | [] => s

/-- TC.DECODE (R280). -/
def execTcDecode (s : State) : Host.Outcome State Fault Refusal :=
  whenEnabled (guardTcDecode s) s.tcDecodeBody s

end Sys2Proof.Machine
end

