-- ==== Sys2Proof/Machine/Dispatch.lean ====
section
/-! DEFINITION. The dispatch: one arm per operation, each one call of its meaning. -/

namespace Sys2Proof.Machine

def exec (i : Instr) (s : State) : Host.Outcome State Fault Refusal :=
  match i with
  | .pushSiByte b => Sys2Proof.Machine.execPushSiByte b s
  | .pushSiEnd => Sys2Proof.Machine.execPushSiEnd s
  | .pushSiIoErr => Sys2Proof.Machine.execPushSiIoErr s
  | .pushPiData B => Sys2Proof.Machine.execPushPiData B s
  | .pushPiEnd => Sys2Proof.Machine.execPushPiEnd s
  | .pushPiIoErr => Sys2Proof.Machine.execPushPiIoErr s
  | .pushFiData B => Sys2Proof.Machine.execPushFiData B s
  | .pushFiEnd => Sys2Proof.Machine.execPushFiEnd s
  | .pushFiIoErr => Sys2Proof.Machine.execPushFiIoErr s
  | .pushTiTc B => Sys2Proof.Machine.execPushTiTc B s
  | .popBo => Sys2Proof.Machine.execPopBo s
  | .popPo => Sys2Proof.Machine.execPopPo s
  | .popFo => Sys2Proof.Machine.execPopFo s
  | .popTo => Sys2Proof.Machine.execPopTo s
  | .regRd idx => Sys2Proof.Machine.execRegRd idx s
  | .regWr idx v => Sys2Proof.Machine.execRegWr idx v s
  | .cmdNop => Sys2Proof.Machine.execCmdNop s
  | .cmdSyncRestart => Sys2Proof.Machine.execCmdSyncRestart s
  | .cmdVcClear => Sys2Proof.Machine.execCmdVcClear s
  | .cmdSoftReset => Sys2Proof.Machine.execCmdSoftReset s
  | .syncByte b => Sys2Proof.Machine.execSyncByte b s
  | .syncEnd => Sys2Proof.Machine.execSyncEnd s
  | .syncIoErr => Sys2Proof.Machine.execSyncIoErr s
  | .pnData => Sys2Proof.Machine.execPnData s
  | .pnEnd => Sys2Proof.Machine.execPnEnd s
  | .pnIoErr => Sys2Proof.Machine.execPnIoErr s
  | .fpData => Sys2Proof.Machine.execFpData s
  | .fpEnd => Sys2Proof.Machine.execFpEnd s
  | .fpIoErr => Sys2Proof.Machine.execFpIoErr s
  | .tcDecode => Sys2Proof.Machine.execTcDecode s

end Sys2Proof.Machine
end

