-- ==== Sys2Proof/Machine/Fetch.lean ====
section
/-! DEFINITION. How the next operation comes about: whose turn it is (R84 (d)), what that agent presents
(R100, R320), and the running of it. -/

namespace Sys2Proof.Machine

/-! ### Turns (notes/assumptions/1.md) -/

/-- The agent that moves next: the first chosen turn, or the free value where none has been chosen. -/
def State.turn (s : State) : Agent :=
  match s.schedule with
  | a :: _ => a
  | [] => Config.freeAgent s.tick

/-- The turn is used up. -/
def State.advance (s : State) : State :=
  match s.schedule with
  | _ :: rest => { s with schedule := rest }
  | [] => { s with tick := s.tick + 1 }

/-! ### What an agent presents

A unit step's descriptor is that of the item at the head of the port the unit reads, with A = 1: the unit does
not choose it (R100). -/

/-- SYNC's step on an item. -/
def SiItem.stepDesc : SiItem → BitVec 24
  | .byte b => unitDesc .si tagData b
  | .endMark => unitDesc .si tagEnd 0#8
  | .ioErr => unitDesc .si tagIoErr 0#8

/-- PN's (on PI) or FP's (on FI) step on an item. -/
def BlockItem.stepDesc (p : Space) : BlockItem → BitVec 24
  | .data _ => unitDesc p tagData 0#8
  | .endMark => unitDesc p tagEnd 0#8
  | .ioErr => unitDesc p tagIoErr 0#8

/-- TC's step on an item. -/
def TiItem.stepDesc : TiItem → BitVec 24
  | .tc _ => unitDesc .ti tagData 0#8

/-- A unit step as a transaction: its operands are in the descriptor and in the port. -/
def unitTransaction (d : BitVec 24) : Transaction := ⟨d, 0#32, []⟩

/-- What the agent presents: the host its next transaction in program order, a unit the step its head item
selects; none where there is nothing. -/
def fetch (a : Agent) (s : State) : Option Transaction :=
  match a with
  | .host => s.host.pending.head?
  | .sync => s.ports.si.head?.map (fun x => unitTransaction x.stepDesc)
  | .pn => s.ports.pi.head?.map (fun x => unitTransaction (x.stepDesc .pi))
  | .fp => s.ports.fi.head?.map (fun x => unitTransaction (x.stepDesc .fi))
  | .tc => s.ports.ti.head?.map (fun x => unitTransaction x.stepDesc)

/-- The host goes on to its next transaction. A unit's item is consumed by its step's own body. -/
def retire (a : Agent) (s : State) : State :=
  match a with
  | .host => s.setHost { s.host with pending := s.host.pending.tail }
  | .sync | .pn | .fp | .tc => s

/-- The state an operation runs in: a host transaction that waits stays the host's next one (R321). -/
def issue (a : Agent) (i : Instr) (s : State) : State := if waits i s then s else retire a s

/-- One agent's step. An agent that has nothing to do takes none, which is a wait (R17). -/
def agentStep (a : Agent) (s : State) : Host.Outcome State Fault Refusal :=
  match fetch a s with
  | none => .next s
  | some t =>
    match decode t with
    | .error e => .refused (.invalidDescriptor e)
    | .ok i => if agentOf i = a then exec i (issue a i s) else .refused .notAHostTransaction

/-! ### Placing an operation (for `withFetchWord`) -/

/-- SYNC may step: SYNC_EN = 1, a state in which it steps, and a legal BSIZE (R150). What is so already is left
as it is (notes/assumptions/21.md). -/
def State.armSync (s : State) : State :=
  let s1 := s.setRegs { s.regs with
    ctrl := s.regs.ctrl ||| 1#32
    blockSize := if s.bsizeLegal then s.regs.blockSize else 1#32 }
  if s1.sync.state.active then s1 else s1.setSync { s1.sync with state := .search }

/-- The operation is what its agent presents next: a unit step's item at the head of the unit's port, a host
transaction at the head of the host's program. -/
def State.place (s : State) (t : Transaction) (i : Option Instr) : State :=
  match i with
  | some (.syncByte b) => s.armSync.setPorts { s.ports with si := .byte b :: s.ports.si }
  | some .syncEnd => s.armSync.setPorts { s.ports with si := .endMark :: s.ports.si }
  | some .syncIoErr => s.armSync.setPorts { s.ports with si := .ioErr :: s.ports.si }
  | some .pnData => s.setPorts { s.ports with pi := .data [] :: s.ports.pi }
  | some .pnEnd => s.setPorts { s.ports with pi := .endMark :: s.ports.pi }
  | some .pnIoErr => s.setPorts { s.ports with pi := .ioErr :: s.ports.pi }
  | some .fpData => s.setPorts { s.ports with fi := .data [] :: s.ports.fi }
  | some .fpEnd => s.setPorts { s.ports with fi := .endMark :: s.ports.fi }
  | some .fpIoErr => s.setPorts { s.ports with fi := .ioErr :: s.ports.fi }
  | some .tcDecode => s.setPorts { s.ports with ti := .tc [] :: s.ports.ti }
  | _ => s.setHost { s.host with pending := t :: s.host.pending }

/-- The next turn is given to `a`. -/
def State.giveTurn (s : State) (a : Agent) : State := { s with schedule := a :: s.schedule }

/-- The agent an operation belongs to; a word that spells no operation can only be presented by the host. -/
def presenter : Option Instr → Agent
  | some i => agentOf i
  | none => .host

/-- The operation whose descriptor is `w`, with operand words of zeros, is placed where the next step finds it. -/
def State.placeWord (s : State) (nbits w : Nat) : State :=
  let i := decodeTableWord nbits w
  (s.place ⟨BitVec.ofNat 24 w, 0#32, []⟩ i).giveTurn (presenter i)

end Sys2Proof.Machine
end

