-- ==== Sys2Proof/Machine/Step.lean ====
section
/-! DEFINITION. One step of the machine: one agent's turn. -/

namespace Sys2Proof.Machine

/-- One step: the agent whose turn it is takes its step (R9, R17, R84). -/
def step (s : State) : Host.Outcome State Fault Refusal := agentStep s.turn s.advance

/-- The state in which the very next step runs the operation whose descriptor is `w` (notes/assumptions/4.md,
21.md). -/
def State.withFetchWord (s : State) (nbits w : Nat) : State := s.placeWord nbits w

end Sys2Proof.Machine
end

