-- ==== Sys2Proof/Machine/Assembler.lean ====
section
/-! DEFINITION. The host's notation beside the machine: the lines of the assembler and its pseudo-instructions as
the transactions they expand to (R114, R115), and the rendering of a time record (R287). The `waitidle` loop is
the host's own control flow and no list of transactions (R115; notes/assumptions/15.md). -/

namespace Sys2Proof.Machine

/-- A line of a host program (R114, R115), as syntax. -/
inductive HostLine where
  /-- a line that is one operation, e.g. `push PI, [00 00]`, `pop FO`, `rd STATUS`, `cmd NOP` -/
  | one (i : Instr)
  /-- `pushs SI, [b0 ... bn]` -/
  | pushs (B : List Byte)
  /-- `pushasm SI` -/
  | pushAsm
  /-- `clrstatus` -/
  | clrStatus
  /-- `wr CMD, v` -/
  | wrCmd (v : Word)
  deriving DecidableEq, Repr

/-- The transactions a line expands to (R115). -/
def HostLine.expand : HostLine → List Transaction
  | .one i => [encode i]
  | .pushs B => B.map (fun b => encode (.pushSiByte b))
  | .pushAsm => asm.map (fun b => encode (.pushSiByte b))
  | .clrStatus => [encode (.regWr 4#4 0x00003F00#32)]
  | .wrCmd v => [encode (decodeCommand v)]

/-- A program is placed in the host's hands (R320; notes/assumptions/4.md). -/
def State.loadProgram (s : State) (p : List HostLine) : State :=
  s.setHost { s.host with pending := s.host.pending ++ p.flatMap HostLine.expand }

/-! ### The rendering of a time record (R287) -/

/-- `n` in decimal with at least `w` digits, padded with zeros; exactly the `w` low digits. -/
def padDecimal : Nat → Nat → List Char
  | 0, _ => []
  | w + 1, n => padDecimal w (n / 10) ++ [Char.ofNat (48 + n % 10)]

/-- `printf("%04d-%02d-%02dT%02d:%02d:%02d.%06d000 UTC", ...)` (R287), as its characters. -/
def TimeRec.render (r : TimeRec) : List Char :=
  padDecimal 4 r.year.toNat ++ ['-'] ++ padDecimal 2 r.month.toNat ++ ['-'] ++ padDecimal 2 r.mday.toNat
    ++ ['T'] ++ padDecimal 2 r.hour.toNat ++ [':'] ++ padDecimal 2 r.minute.toNat ++ [':']
    ++ padDecimal 2 r.second.toNat ++ ['.'] ++ padDecimal 6 r.usec.toNat ++ ['0', '0', '0', ' ', 'U', 'T', 'C']

/-- The 9 bytes of a time record's constituent fields: `be16(day) ++ be32(ms) ++ be16(us) ++ [rsv]` (R288). -/
def TimeRec.encodeBytes (r : TimeRec) : List Byte :=
  [r.day.extractLsb' 8 8, r.day.extractLsb' 0 8,
   r.ms.extractLsb' 24 8, r.ms.extractLsb' 16 8, r.ms.extractLsb' 8 8, r.ms.extractLsb' 0 8,
   r.us.extractLsb' 8 8, r.us.extractLsb' 0 8, r.rsv]

end Sys2Proof.Machine
end

