-- ==== Sys2Proof/Machine/Reference.lean ====
section
/-! DEFINITION. The pure functions in which the spec states what the block as a whole computes: the block sequence
of a stream (R156), the PN sequence as bits and as the printed table (R200, R202), and the Gregorian calendar
(R286). No meaning calls them; statements compare the machine with them. -/

namespace Sys2Proof.Machine

/-! ### The block sequence of a stream (R156) -/

/-- What follows the first occurrence of the marker. -/
def afterMarker : List Byte → Option (List Byte)
  | [] => none
  | b :: rest => if (b :: rest).take asmLen = asm then some (rest.drop 3) else afterMarker rest

/-- `blocks`, with a bound on its iterations. -/
def blocksWithin : Nat → List Byte → Nat → List (List Byte)
  | 0, _, _ => []
  | fuel + 1, S, n =>
    match afterMarker S with
    | none => []
    | some rest => if rest.length < n then [] else rest.take n :: blocksWithin fuel (rest.drop n) n

/-- `blocks(S, n)` (R156): each block is the n bytes after the next marker; a trailing partial block is
discarded. An iteration uses up at least one byte, so `S.length` of them are enough. -/
def blocks (S : List Byte) (n : Nat) : List (List Byte) := blocksWithin S.length S n

/-! ### The PN sequence (R200 to R202) -/

/-- `pn_byte(i)`: the register's value after `8i` bit steps (R201). -/
def pnByte : Nat → BitVec 8
  | 0 => lfsrInit
  | i + 1 => lfsrByteStep (pnByte i)

/-- The bit `a_k`: the first bit of a byte is its most significant one (R200). -/
def pnBit (k : Nat) : Bool := (pnByte (k / 8)).getLsbD (7 - k % 8)

/-- R202, the row labelled 0. -/
def pnRow0 : List Nat := [0xFF, 0x48, 0x0E, 0xC0, 0x9A, 0x0D, 0x70, 0xBC, 0x8E, 0x2C, 0x93, 0xAD, 0xA7, 0xB7, 0x46, 0xCE]
/-- R202, the row labelled 16. -/
def pnRow16 : List Nat := [0x5A, 0x97, 0x7D, 0xCC, 0x32, 0xA2, 0xBF, 0x3E, 0x0A, 0x10, 0xF1, 0x88, 0x94, 0xCD, 0xEA, 0xB1]
/-- R202, the row labelled 32. -/
def pnRow32 : List Nat := [0xFE, 0x90, 0x1D, 0x81, 0x34, 0x1A, 0xE1, 0x79, 0x1C, 0x59, 0x27, 0x5B, 0x4F, 0x6E, 0x8D, 0x9C]
/-- R202, the row labelled 48. -/
def pnRow48 : List Nat := [0xB5, 0x2E, 0xFB, 0x98, 0x65, 0x45, 0x7E, 0x7C, 0x14, 0x21, 0xE3, 0x11, 0x29, 0x9B, 0xD5, 0x63]
/-- R202, the row labelled 64. -/
def pnRow64 : List Nat := [0xFD, 0x20, 0x3B, 0x02, 0x68, 0x35, 0xC2, 0xF2, 0x38, 0xB2, 0x4E, 0xB6, 0x9E, 0xDD, 0x1B, 0x39]
/-- R202, the row labelled 80. -/
def pnRow80 : List Nat := [0x6A, 0x5D, 0xF7, 0x30, 0xCA, 0x8A, 0xFC, 0xF8, 0x28, 0x43, 0xC6, 0x22, 0x53, 0x37, 0xAA, 0xC7]
/-- R202, the row labelled 96. -/
def pnRow96 : List Nat := [0xFA, 0x40, 0x76, 0x04, 0xD0, 0x6B, 0x85, 0xE4, 0x71, 0x64, 0x9D, 0x6D, 0x3D, 0xBA, 0x36, 0x72]
/-- R202, the row labelled 112. -/
def pnRow112 : List Nat := [0xD4, 0xBB, 0xEE, 0x61, 0x95, 0x15, 0xF9, 0xF0, 0x50, 0x87, 0x8C, 0x44, 0xA6, 0x6F, 0x55, 0x8F]
/-- R202, the row labelled 128. -/
def pnRow128 : List Nat := [0xF4, 0x80, 0xEC, 0x09, 0xA0, 0xD7, 0x0B, 0xC8, 0xE2, 0xC9, 0x3A, 0xDA, 0x7B, 0x74, 0x6C, 0xE5]
/-- R202, the row labelled 144. -/
def pnRow144 : List Nat := [0xA9, 0x77, 0xDC, 0xC3, 0x2A, 0x2B, 0xF3, 0xE0, 0xA1, 0x0F, 0x18, 0x89, 0x4C, 0xDE, 0xAB, 0x1F]
/-- R202, the row labelled 160. -/
def pnRow160 : List Nat := [0xE9, 0x01, 0xD8, 0x13, 0x41, 0xAE, 0x17, 0x91, 0xC5, 0x92, 0x75, 0xB4, 0xF6, 0xE8, 0xD9, 0xCB]
/-- R202, the row labelled 176. -/
def pnRow176 : List Nat := [0x52, 0xEF, 0xB9, 0x86, 0x54, 0x57, 0xE7, 0xC1, 0x42, 0x1E, 0x31, 0x12, 0x99, 0xBD, 0x56, 0x3F]
/-- R202, the row labelled 192. -/
def pnRow192 : List Nat := [0xD2, 0x03, 0xB0, 0x26, 0x83, 0x5C, 0x2F, 0x23, 0x8B, 0x24, 0xEB, 0x69, 0xED, 0xD1, 0xB3, 0x96]
/-- R202, the row labelled 208. -/
def pnRow208 : List Nat := [0xA5, 0xDF, 0x73, 0x0C, 0xA8, 0xAF, 0xCF, 0x82, 0x84, 0x3C, 0x62, 0x25, 0x33, 0x7A, 0xAC, 0x7F]
/-- R202, the row labelled 224. -/
def pnRow224 : List Nat := [0xA4, 0x07, 0x60, 0x4D, 0x06, 0xB8, 0x5E, 0x47, 0x16, 0x49, 0xD6, 0xD3, 0xDB, 0xA3, 0x67, 0x2D]
/-- R202, the row labelled 240. -/
def pnRow240 : List Nat := [0x4B, 0xBE, 0xE6, 0x19, 0x51, 0x5F, 0x9F, 0x05, 0x08, 0x78, 0xC4, 0x4A, 0x66, 0xF5, 0x58]

/-- The 255 PN bytes as R202 prints them. -/
def pnTable : List Nat :=
  pnRow0 ++ pnRow16 ++ pnRow32 ++ pnRow48 ++ pnRow64 ++ pnRow80 ++ pnRow96 ++ pnRow112
  ++ pnRow128 ++ pnRow144 ++ pnRow160 ++ pnRow176 ++ pnRow192 ++ pnRow208 ++ pnRow224 ++ pnRow240

/-! ### The proleptic Gregorian calendar (R286) -/

/-- The leap rule (R286). -/
def isLeap (y : Nat) : Bool := (y % 4 == 0 && y % 100 != 0) || y % 400 == 0

/-- Days of a month. -/
def daysInMonth (y m : Nat) : Nat :=
  if m = 2 then (if isLeap y then 29 else 28)
  else if m = 4 ∨ m = 6 ∨ m = 9 ∨ m = 11 then 30
  else 31

/-- The day after a date. -/
def CivilDate.next (d : CivilDate) : CivilDate :=
  if d.mday < daysInMonth d.year d.month then { d with mday := d.mday + 1 }
  else if d.month < 12 then ⟨d.year, d.month + 1, 1⟩
  else ⟨d.year + 1, 1, 1⟩

end Sys2Proof.Machine
end

