-- ==== Sys2Proof/Safety.lean ====
section
/-! DEFINITION. What the claims call a good state and a safe run: the invariant of the block (R43, R45, R47, R105,
and the reserved bits of R31 to R34), the records FP emits (R105), and the measure of the work that the units
still have in their input ports. -/

namespace Sys2Proof.Machine

/-! ### The invariant -/

/-- A block item's byte list is at most BLOCK_MAX long (R105). -/
def BlockItem.fits (n : Nat) : BlockItem → Prop
  | .data B => B.length ≤ n
  | .endMark | .ioErr => True

/-- A timecode item is at most 9 bytes long (R105). -/
def TiItem.fits : TiItem → Prop
  | .tc B => B.length ≤ tcLen

/-- The reserved bits of the RW registers are 0 (R31 to R34). -/
structure Regs.Inv (r : Regs) : Prop where
  ctrl : r.ctrl.toNat < 8
  blockSize : r.blockSize.toNat < 65536
  mpduOffset : r.mpduOffset.toNat < 65536
  trailerLen : r.trailerLen.toNat < 65536

/-- Every port holds at most Q_DEPTH items, each of which the port can carry (R47, R105, R321). -/
structure Ports.Inv (p : Ports) (q : Params) : Prop where
  si : p.si.length ≤ q.qDepth
  bo : p.bo.length ≤ q.qDepth
  pi : p.pi.length ≤ q.qDepth
  po : p.po.length ≤ q.qDepth
  fi : p.fi.length ≤ q.qDepth
  fo : p.fo.length ≤ q.qDepth
  ti : p.ti.length ≤ q.qDepth
  tout : p.tout.length ≤ q.qDepth
  boItems : ∀ x ∈ p.bo, x.fits q.blockMax
  piItems : ∀ x ∈ p.pi, x.fits q.blockMax
  poItems : ∀ x ∈ p.po, x.fits q.blockMax
  fiItems : ∀ x ∈ p.fi, x.fits q.blockMax
  tiItems : ∀ x ∈ p.ti, x.fits

/-- SYNC's state (R43, R152): a window of at most 4 bytes that is not the marker; a buffer that holds bytes only
in COLLECT and is shorter than the latched size, which is legal there; an empty window outside SEARCH. -/
structure SyncUnit.Inv (u : SyncUnit) (q : Params) : Prop where
  win : u.win.length ≤ asmLen
  notMarker : u.win ≠ asm
  winOnlyInSearch : u.state ≠ .search → u.win = []
  bufOnlyInCollect : u.state ≠ .collect → u.buf = []
  bufShort : u.state = .collect → u.buf.length < u.curBsize.toNat
  bsizeFits : u.state = .collect → u.curBsize.toNat ≤ q.blockMax

/-- The invariant of the block. -/
structure State.Inv (s : State) : Prop where
  regs : s.regs.Inv
  sync : s.sync.Inv s.params
  ports : s.ports.Inv s.params
  vc : s.vc.wf

/-! ### What FP emits (R105, R232) -/

/-- The relations between the fields of an FO item: R105's, and R232's two for a Frame (`gap` is 1 exactly when
`missing` is not 0; a `first` frame has no gap). -/
def FoItem.consistent : FoItem → Prop
  | .frame r =>
    r.key.toNat = r.scid.toNat * 64 + r.vcid.toNat
      ∧ r.signal = r.replay ++ r.vcfcUsage ++ r.sigSpare ++ r.vcfcCycle
      ∧ (r.fhpNone = true ↔ r.fhp = 0x7FF#11)
      ∧ (r.gap = true ↔ r.missing ≠ 0#24)
      ∧ (r.first = true → r.gap = false)
  | .gap r => r.key.toNat = r.scid.toNat * 64 + r.vcid.toNat ∧ 1 ≤ r.missing.toNat
  | .malformed reason _ => reason = 1#2 ∨ reason = 2#2
  | .endMark | .ioErr => True

/-- Every item of FO has the relations of R105 and R232. -/
def State.FoConsistent (s : State) : Prop := ∀ x ∈ s.ports.fo, x.consistent

/-! ### The spec's own notation, for statements -/

/-- `space(Q) = Q_DEPTH − len(Q)` (R16). -/
def State.space {α : Type} (s : State) (q : List α) : Nat := s.params.qDepth - q.length

/-- SYNC_ACTIVE as R150 writes it. -/
def State.SyncActive (s : State) : Prop :=
  s.regs.ctrl.getLsbD 0 = true
    ∧ (s.sync.state = .search ∨ s.sync.state = .collect)
    ∧ (s.sync.state = .collect ∨ (1 ≤ s.bsize.toNat ∧ s.bsize.toNat ≤ s.params.blockMax))
    ∧ 1 ≤ s.ports.si.length

/-- SYNC's output port `tgt` (R151) holding `q`, in ports `p`. -/
def State.withSyncOut (s : State) (p : Ports) (q : List BlockItem) : Ports :=
  if s.regs.ctrl.getLsbD 1 then { p with pi := q } else { p with bo := q }

/-- PN's output port `tgt` (R207) holding `q`, in ports `p`. -/
def State.withPnOut (s : State) (p : Ports) (q : List BlockItem) : Ports :=
  if s.regs.ctrl.getLsbD 2 then { p with fi := q } else { p with po := q }

/-! ### Unit operations and their work -/

/-- The operation is a unit step (R2). -/
def isUnit (i : Instr) : Bool := agentOf i != .host

/-- An upper bound on the unit steps that can still be taken without the host: an SI item can become a PI item, and
that an FI item. -/
def State.work (s : State) : Nat :=
  3 * s.ports.si.length + 2 * s.ports.pi.length + s.ports.fi.length + s.ports.ti.length

/-- The size in bytes of a block item. -/
def BlockItem.size : BlockItem → Nat
  | .data B => B.length
  | .endMark | .ioErr => 0

/-- The bytes in a list of block items. -/
def sizeSum (q : List BlockItem) : Nat := (q.map BlockItem.size).sum

/-- `q'` is `q` with at most its oldest item taken away and at most two items appended: what one step may do to a
FIFO port (R84 (a)). -/
def FifoStep {α : Type} (q q' : List α) : Prop := ∃ xs : List α, xs.length ≤ 2 ∧ (q' = q ++ xs ∨ q' = q.tail ++ xs)

/-- FIFO at every port. -/
structure Ports.FifoStep (p p' : Ports) : Prop where
  si : Sys2Proof.Machine.FifoStep p.si p'.si
  bo : Sys2Proof.Machine.FifoStep p.bo p'.bo
  pi : Sys2Proof.Machine.FifoStep p.pi p'.pi
  po : Sys2Proof.Machine.FifoStep p.po p'.po
  fi : Sys2Proof.Machine.FifoStep p.fi p'.fi
  fo : Sys2Proof.Machine.FifoStep p.fo p'.fo
  ti : Sys2Proof.Machine.FifoStep p.ti p'.ti
  tout : Sys2Proof.Machine.FifoStep p.tout p'.tout

/-! ### Safe runs -/

/-- Every transaction the host still has is a host transaction of the block, with an item its port can carry
(R104, R321). -/
def State.HostProgramOk (s : State) : Prop :=
  ∀ t ∈ s.host.pending, ∃ i, decode t = .ok i ∧ agentOf i = .host ∧ admits i s = true

/-- `k` steps from `s` all go on, every state on the way satisfying the invariant. -/
def safeRun : Nat → State → Prop
  | 0, s => s.Inv
  | k + 1, s => s.Inv ∧ match step s with
    | .next t => safeRun k t
    | .fault _ | .refused _ => False

end Sys2Proof.Machine
end

