-- ==== Sys2Proof/Certificates/Slice0/Obligations.lean ====
section
/-! DEFINITION. The statements for the provers. Each cites the rules of spec/ it formalises; the list with titles
is OBLIGATIONS.json. `exec i s = .next t` with `t` written as an update of `s` states the result, the completion
and the frame at once: what the update does not name is unchanged. -/

open Sys2Proof Sys2Proof.Machine

/-! ### Encodings -/

/-- R100 to R103: decoding an encoded operation gives it back, with every operand. -/
def Obligations.DecodeOfEncode : Prop :=
  ∀ i : Instr, i.wf = true → decode (encode i) = .ok i

/-- R103, R100: the decoder keeps every bit of the descriptor and the operand its row takes: a decoded operation's
own descriptor is the one that was decoded, but for index 15 with a value that names a command; and the operand
is the one that travelled with it. The operands a row does not take, the value that travels with a command's
descriptor among them, are ignored (the model's choice, notes/assumptions/6.md). -/
def Obligations.DecodeKeepsEveryBit : Prop :=
  ∀ (t : Transaction) (i : Instr), decode t = .ok i →
    ((encode i).desc = t.desc
      ∨ (t.desc = 0x10010F#24 ∧ t.value.toNat < 4 ∧ (encode i).desc.toNat = 0x110000 + t.value.toNat))
    ∧ (∀ B, i = .pushPiData B ∨ i = .pushFiData B ∨ i = .pushTiTc B → B = t.bytes)
    ∧ (∀ k v, i = .regWr k v → v = t.value)
    ∧ (t.desc ≠ 0x030000#24 → t.desc ≠ 0x050000#24 → t.desc ≠ 0x070000#24 →
        ∀ B : List Byte, decode ⟨t.desc, t.value, B⟩ = .ok i)
    ∧ (t.desc.toNat / 16 ≠ 0x10010 → ∀ v : Word, decode ⟨t.desc, v, t.bytes⟩ = .ok i)

/-- R103: no descriptor is two rows'. -/
def Obligations.AtMostOneRowMatches : Prop :=
  ∀ d : BitVec 24, (opcodeTable.filter (OpcodeRow.hits d)).length ≤ 1

/-- R104 (a): a descriptor is rejected exactly when it is none of the 30 patterns of R103, whatever travels with it:
the four rows with a byte or index field by the bits above that field, the others by all 24. -/
def Obligations.ReservedDescriptorsInvalid : Prop :=
  ∀ t : Transaction,
    (∃ e, decode t = .error e) ↔
      let d := t.desc.toNat
      ¬ (d / 256 = 0x0100 ∨ d / 256 = 0x0180 ∨ d / 16 = 0x10000 ∨ d / 16 = 0x10010
        ∨ d ∈ [0x010100, 0x010200, 0x030000, 0x030100, 0x030200, 0x050000, 0x050100, 0x050200, 0x070000]
        ∨ d ∈ [0x020000, 0x040000, 0x060000, 0x080000]
        ∨ d ∈ [0x110000, 0x110001, 0x110002, 0x110003]
        ∨ d ∈ [0x018100, 0x018200, 0x038000, 0x038100, 0x038200, 0x058000, 0x058100, 0x058200, 0x078000])

/-- R103, R112: a write of index 15. -/
def Obligations.WriteToCmdDecodes : Prop :=
  ∀ (v : Word) (B : List Byte),
    (v.toNat = 0 → decode ⟨0x10010F#24, v, B⟩ = .ok .cmdNop)
    ∧ (v.toNat = 1 → decode ⟨0x10010F#24, v, B⟩ = .ok .cmdSyncRestart)
    ∧ (v.toNat = 2 → decode ⟨0x10010F#24, v, B⟩ = .ok .cmdVcClear)
    ∧ (v.toNat = 3 → decode ⟨0x10010F#24, v, B⟩ = .ok .cmdSoftReset)
    ∧ (4 ≤ v.toNat → decode ⟨0x10010F#24, v, B⟩ = .ok (.regWr 15#4 v))

/-- R103: words written out from the table, one or two of each family. -/
def Obligations.WordsOfTheTableDecode : Prop :=
  ∀ (b : Byte) (k : BitVec 4) (v : Word) (B : List Byte),
    decode ⟨0x0100#16 ++ b, v, B⟩ = .ok (.pushSiByte b)
    ∧ decode ⟨0x030000#24, v, B⟩ = .ok (.pushPiData B)
    ∧ decode ⟨0x060000#24, v, B⟩ = .ok .popFo
    ∧ decode ⟨0x10000#20 ++ k, v, B⟩ = .ok (.regRd k)
    ∧ decode ⟨0x110003#24, v, B⟩ = .ok .cmdSoftReset
    ∧ decode ⟨0x0180#16 ++ b, v, B⟩ = .ok (.syncByte b)
    ∧ decode ⟨0x038000#24, v, B⟩ = .ok .pnData
    ∧ decode ⟨0x058200#24, v, B⟩ = .ok .fpIoErr
    ∧ decode ⟨0x078000#24, v, B⟩ = .ok .tcDecode

/-! ### Steps -/

/-- R84 (c), (d), R320: on its turn the host's first transaction runs, and is taken off its program unless it
waits; where it waits nothing but the turn is used up, which is the model's reading of R17 and R321
(notes/assumptions/3.md). The list of turns and the list of the host's transactions are the model's choices
(notes/assumptions/1.md, 4.md). -/
def Obligations.StepRunsHostTransaction : Prop :=
  ∀ (s : State) (rest : List Agent) (t : Transaction) (ts : List Transaction) (i : Instr),
    s.schedule = .host :: rest → s.host.pending = t :: ts → decode t = .ok i → agentOf i = .host →
    (waits i s = false →
      step s = exec i { s with schedule := rest, host := { s.host with pending := ts } })
    ∧ (waits i s = true → step s = .next { s with schedule := rest })

/-- R100: on a unit's turn the operation runs that the unit's head item selects. The list of turns is the model's
choice (notes/assumptions/1.md). -/
def Obligations.StepRunsUnitItem : Prop :=
  ∀ (s : State) (rest : List Agent),
    (s.schedule = .sync :: rest →
      (∀ b q, s.ports.si = .byte b :: q → step s = exec (.syncByte b) { s with schedule := rest })
      ∧ (∀ q, s.ports.si = .endMark :: q → step s = exec .syncEnd { s with schedule := rest })
      ∧ (∀ q, s.ports.si = .ioErr :: q → step s = exec .syncIoErr { s with schedule := rest }))
    ∧ (s.schedule = .pn :: rest →
      (∀ B q, s.ports.pi = .data B :: q → step s = exec .pnData { s with schedule := rest })
      ∧ (∀ q, s.ports.pi = .endMark :: q → step s = exec .pnEnd { s with schedule := rest })
      ∧ (∀ q, s.ports.pi = .ioErr :: q → step s = exec .pnIoErr { s with schedule := rest }))
    ∧ (s.schedule = .fp :: rest →
      (∀ B q, s.ports.fi = .data B :: q → step s = exec .fpData { s with schedule := rest })
      ∧ (∀ q, s.ports.fi = .endMark :: q → step s = exec .fpEnd { s with schedule := rest })
      ∧ (∀ q, s.ports.fi = .ioErr :: q → step s = exec .fpIoErr { s with schedule := rest }))
    ∧ (s.schedule = .tc :: rest →
      ∀ B q, s.ports.ti = .tc B :: q → step s = exec .tcDecode { s with schedule := rest })

/-- R84 (d): every interleaving is admitted, since any agent may be given the turn; with no turn chosen the agent
is the free value (the model's choice, notes/assumptions/1.md). An agent with nothing before it leaves the state
alone, the model's reading of R17 (notes/assumptions/3.md). -/
def Obligations.AnyAgentMayMove : Prop :=
  ∀ (s : State) (a : Agent) (rest : List Agent),
    step { s with schedule := a :: rest } = agentStep a { s with schedule := rest }
    ∧ (s.schedule = [] → step s = agentStep (Config.freeAgent s.tick) { s with tick := s.tick + 1 })
    ∧ (fetch a s = none → agentStep a s = .next s)

/-- R104 (a), R2: the host cannot present a descriptor of no row, nor a unit step. -/
def Obligations.NonTransactionsRefused : Prop :=
  ∀ (s : State) (t : Transaction) (ts : List Transaction), s.host.pending = t :: ts →
    (∀ e, decode t = .error e → agentStep .host s = .refused (.invalidDescriptor e))
    ∧ (∀ i, decode t = .ok i → agentOf i ≠ .host → agentStep .host s = .refused .notAHostTransaction)

/-! ### Host transactions -/

/-- R323, R324, R325. Full port: R321. An operation that has to wait answers the unchanged state: that is the
model's reading of R17 (notes/assumptions/3.md). -/
def Obligations.PushSiAppends : Prop :=
  ∀ (b : Byte) (s : State),
    encode (.pushSiByte b) = ⟨0x0100#16 ++ b, 0#32, []⟩
    ∧ encode .pushSiEnd = ⟨0x010100#24, 0#32, []⟩
    ∧ encode .pushSiIoErr = ⟨0x010200#24, 0#32, []⟩
    ∧ (1 ≤ s.space s.ports.si →
      exec (.pushSiByte b) s = .next { s with ports := { s.ports with si := s.ports.si ++ [.byte b] } }
      ∧ exec .pushSiEnd s = .next { s with ports := { s.ports with si := s.ports.si ++ [.endMark] } }
      ∧ exec .pushSiIoErr s = .next { s with ports := { s.ports with si := s.ports.si ++ [.ioErr] } })
    ∧ (s.space s.ports.si = 0 →
      exec (.pushSiByte b) s = .next s ∧ exec .pushSiEnd s = .next s ∧ exec .pushSiIoErr s = .next s)

/-- R326, R327, R328. Full port: R321. An operation that has to wait answers the unchanged state: that is the
model's reading of R17 (notes/assumptions/3.md). Longer items: OverlongItemsRefused. -/
def Obligations.PushPiAppends : Prop :=
  ∀ (B : List Byte) (s : State),
    encode (.pushPiData B) = ⟨0x030000#24, 0#32, B⟩
    ∧ encode .pushPiEnd = ⟨0x030100#24, 0#32, []⟩
    ∧ encode .pushPiIoErr = ⟨0x030200#24, 0#32, []⟩
    ∧ (1 ≤ s.space s.ports.pi →
      (B.length ≤ s.params.blockMax →
        exec (.pushPiData B) s = .next { s with ports := { s.ports with pi := s.ports.pi ++ [.data B] } })
      ∧ exec .pushPiEnd s = .next { s with ports := { s.ports with pi := s.ports.pi ++ [.endMark] } }
      ∧ exec .pushPiIoErr s = .next { s with ports := { s.ports with pi := s.ports.pi ++ [.ioErr] } })
    ∧ (s.space s.ports.pi = 0 →
      (B.length ≤ s.params.blockMax → exec (.pushPiData B) s = .next s)
      ∧ exec .pushPiEnd s = .next s ∧ exec .pushPiIoErr s = .next s)

/-- R329, R330, R331. Full port: R321. An operation that has to wait answers the unchanged state: that is the
model's reading of R17 (notes/assumptions/3.md). Longer items: OverlongItemsRefused. -/
def Obligations.PushFiAppends : Prop :=
  ∀ (B : List Byte) (s : State),
    encode (.pushFiData B) = ⟨0x050000#24, 0#32, B⟩
    ∧ encode .pushFiEnd = ⟨0x050100#24, 0#32, []⟩
    ∧ encode .pushFiIoErr = ⟨0x050200#24, 0#32, []⟩
    ∧ (1 ≤ s.space s.ports.fi →
      (B.length ≤ s.params.blockMax →
        exec (.pushFiData B) s = .next { s with ports := { s.ports with fi := s.ports.fi ++ [.data B] } })
      ∧ exec .pushFiEnd s = .next { s with ports := { s.ports with fi := s.ports.fi ++ [.endMark] } }
      ∧ exec .pushFiIoErr s = .next { s with ports := { s.ports with fi := s.ports.fi ++ [.ioErr] } })
    ∧ (s.space s.ports.fi = 0 →
      (B.length ≤ s.params.blockMax → exec (.pushFiData B) s = .next s)
      ∧ exec .pushFiEnd s = .next s ∧ exec .pushFiIoErr s = .next s)

/-- R332. Full port: R321. An operation that has to wait answers the unchanged state: that is the model's reading
of R17 (notes/assumptions/3.md). Longer items: OverlongItemsRefused. -/
def Obligations.PushTiAppends : Prop :=
  ∀ (B : List Byte) (s : State),
    encode (.pushTiTc B) = ⟨0x070000#24, 0#32, B⟩
    ∧ (B.length ≤ 9 → 1 ≤ s.space s.ports.ti →
      exec (.pushTiTc B) s = .next { s with ports := { s.ports with ti := s.ports.ti ++ [.tc B] } })
    ∧ (B.length ≤ 9 → s.space s.ports.ti = 0 → exec (.pushTiTc B) s = .next s)

/-- R321, 92 D32: an over-long item is refused, whether or not the port is full (the model's order of the two,
notes/assumptions/11.md). -/
def Obligations.OverlongItemsRefused : Prop :=
  ∀ (B : List Byte) (s : State),
    (s.params.blockMax < B.length →
      exec (.pushPiData B) s = .refused .itemTooLong ∧ exec (.pushFiData B) s = .refused .itemTooLong)
    ∧ (9 < B.length → exec (.pushTiTc B) s = .refused .itemTooLong)

/-- R333, R334, R335, R336. The value returned (R100) is appended to host.replies, the model's choice
(notes/assumptions/5.md). Empty port: R321. An operation that has to wait answers the unchanged state: that is the
model's reading of R17 (notes/assumptions/3.md). -/
def Obligations.PopsTakeTheOldest : Prop :=
  (encode .popBo = ⟨0x020000#24, 0#32, []⟩ ∧ encode .popPo = ⟨0x040000#24, 0#32, []⟩
    ∧ encode .popFo = ⟨0x060000#24, 0#32, []⟩ ∧ encode .popTo = ⟨0x080000#24, 0#32, []⟩)
  ∧ ∀ s : State,
    (∀ x q, s.ports.bo = x :: q → exec .popBo s = .next { s with
      ports := { s.ports with bo := q }, host := { s.host with replies := s.host.replies ++ [.bo x] } })
    ∧ (∀ x q, s.ports.po = x :: q → exec .popPo s = .next { s with
      ports := { s.ports with po := q }, host := { s.host with replies := s.host.replies ++ [.po x] } })
    ∧ (∀ x q, s.ports.fo = x :: q → exec .popFo s = .next { s with
      ports := { s.ports with fo := q }, host := { s.host with replies := s.host.replies ++ [.fo x] } })
    ∧ (∀ x q, s.ports.tout = x :: q → exec .popTo s = .next { s with
      ports := { s.ports with tout := q }, host := { s.host with replies := s.host.replies ++ [.tout x] } })
    ∧ (s.ports.bo = [] → exec .popBo s = .next s)
    ∧ (s.ports.po = [] → exec .popPo s = .next s)
    ∧ (s.ports.fo = [] → exec .popFo s = .next s)
    ∧ (s.ports.tout = [] → exec .popTo s = .next s)

/-- R337 (with R35 for STATUS): the value read, and that nothing but the host's replies changes. The value returned
(R100) is appended to host.replies, the model's choice (notes/assumptions/5.md). -/
def Obligations.RegReadReturns : Prop :=
  ∀ (k : BitVec 4) (s : State), encode (.regRd k) = ⟨0x10000#20 ++ k, 0#32, []⟩ ∧ ∃ v : Word,
    exec (.regRd k) s = .next { s with host := { s.host with replies := s.host.replies ++ [.reg v] } }
    ∧ (k.toNat = 0 → v.toNat = s.regs.ctrl.toNat % 8)
    ∧ (k.toNat = 1 → v.toNat = s.regs.blockSize.toNat % 65536)
    ∧ (k.toNat = 2 → v.toNat = s.regs.mpduOffset.toNat % 65536)
    ∧ (k.toNat = 3 → v.toNat = s.regs.trailerLen.toNat % 65536)
    ∧ (k.toNat = 4 → v.toNat = s.regs.sticky.toNat * 256 + (if s.idle then 8 else 0)
        + (if s.cfgErr then 4 else 0)
        + (match s.sync.state with | .search => 0 | .collect => 1 | .done => 2 | .failed => 3))
    ∧ (k.toNat = 5 → v = s.regs.streamPos) ∧ (k.toNat = 6 → v = s.regs.asmCount)
    ∧ (k.toNat = 7 → v = s.regs.blockCount) ∧ (k.toNat = 8 → v = s.regs.skipCount)
    ∧ (k.toNat = 9 → v = s.regs.frameCount) ∧ (k.toNat = 10 → v = s.regs.gapCount)
    ∧ (k.toNat = 11 → v = s.regs.malformedCount) ∧ (k.toNat = 12 → v = s.regs.tcCount)
    ∧ (13 ≤ k.toNat → v = 0#32)

/-- R338: reserved bits are dropped, STATUS is write-one-to-clear, counters and reserved indices ignore writes, and
index 15 is a command, also as a REG.WR (the form a decoder does not produce for a defined code). -/
def Obligations.RegWriteStores : Prop :=
  ∀ (v : Word) (s : State),
    (∃ c : Word, c.toNat = v.toNat % 8
      ∧ exec (.regWr 0#4 v) s = .next { s with regs := { s.regs with ctrl := c } })
    ∧ (∃ c : Word, c.toNat = v.toNat % 65536
      ∧ exec (.regWr 1#4 v) s = .next { s with regs := { s.regs with blockSize := c } })
    ∧ (∃ c : Word, c.toNat = v.toNat % 65536
      ∧ exec (.regWr 2#4 v) s = .next { s with regs := { s.regs with mpduOffset := c } })
    ∧ (∃ c : Word, c.toNat = v.toNat % 65536
      ∧ exec (.regWr 3#4 v) s = .next { s with regs := { s.regs with trailerLen := c } })
    ∧ (∃ c : BitVec 6,
      (∀ j, j < 6 → c.getLsbD j = (s.regs.sticky.getLsbD j && !(v.getLsbD (8 + j))))
      ∧ exec (.regWr 4#4 v) s = .next { s with regs := { s.regs with sticky := c } })
    ∧ (∀ k : BitVec 4, 5 ≤ k.toNat → k.toNat ≤ 14 → exec (.regWr k v) s = .next s)
    ∧ (∀ k : BitVec 4, encode (.regWr k v) = ⟨0x10010#20 ++ k, v, []⟩)
    ∧ (v.toNat = 0 → exec (.regWr 15#4 v) s = exec .cmdNop s)
    ∧ (v.toNat = 1 → exec (.regWr 15#4 v) s = exec .cmdSyncRestart s)
    ∧ (v.toNat = 2 → exec (.regWr 15#4 v) s = exec .cmdVcClear s)
    ∧ (v.toNat = 3 → exec (.regWr 15#4 v) s = exec .cmdSoftReset s)
    ∧ (4 ≤ v.toNat →
        exec (.regWr 15#4 v) s = .next { s with regs := { s.regs with sticky := s.regs.sticky ||| 0x20#6 } })

/-- R339, R340, R341. -/
def Obligations.CommandsTakeEffect : Prop :=
  (encode .cmdNop).desc = 0x110000#24 ∧ (encode .cmdSyncRestart).desc = 0x110001#24
  ∧ (encode .cmdVcClear).desc = 0x110002#24
  ∧ ∀ s : State,
    exec .cmdNop s = .next s
    ∧ exec .cmdSyncRestart s = .next { s with
        sync := ⟨.search, [], [], 0#16⟩
        regs := { s.regs with streamPos := 0#32, asmCount := 0#32, blockCount := 0#32, skipCount := 0#32 } }
    ∧ ∃ v : VcTable, (∀ k, v.last k = none)
      ∧ exec .cmdVcClear s = .next { s with
          vc := v
          regs := { s.regs with frameCount := 0#32, gapCount := 0#32, malformedCount := 0#32 } }

/-- R342, R400, R401: CMD.SOFT_RESET and hardware reset leave the block as R400 lists it; STATUS then reads
0x00000008. What is outside the block stays, the model's reading (notes/assumptions/8.md); hardware reset is a
function the outside world applies, the model's choice (notes/assumptions/16.md). -/
def Obligations.SoftResetIsReset : Prop :=
  (encode .cmdSoftReset).desc = 0x110003#24
  ∧ ∀ s : State, ∃ t : State,
    exec .cmdSoftReset s = .next t ∧ s.hardwareReset = t
    ∧ t.regs.ctrl = 0#32 ∧ t.regs.blockSize = 0#32 ∧ t.regs.mpduOffset = 6#32 ∧ t.regs.trailerLen = 0#32
    ∧ t.regs.sticky = 0#6
    ∧ t.regs.streamPos = 0#32 ∧ t.regs.asmCount = 0#32 ∧ t.regs.blockCount = 0#32 ∧ t.regs.skipCount = 0#32
    ∧ t.regs.frameCount = 0#32 ∧ t.regs.gapCount = 0#32 ∧ t.regs.malformedCount = 0#32
    ∧ t.regs.tcCount = 0#32
    ∧ t.sync.state = .search ∧ t.sync.win = [] ∧ t.sync.buf = [] ∧ t.sync.curBsize = 0#16
    ∧ (∀ k, t.vc.last k = none)
    ∧ t.ports = ⟨[], [], [], [], [], [], [], []⟩
    ∧ t.statusWord = 8#32 ∧ t.cfgErr = false ∧ t.idle = true
    ∧ (∀ k : BitVec 4, 13 ≤ k.toNat → t.readReg k = 0#32)
    ∧ t.params = s.params ∧ t.host = s.host ∧ t.schedule = s.schedule ∧ t.tick = s.tick

/-- R400: the block right after reset is the block after CMD.SOFT_RESET. -/
def Obligations.ResetMatchesSoftReset : Prop :=
  ∀ s t : State, exec .cmdSoftReset s = .next t →
    t.regs = State.reset.regs ∧ t.sync = State.reset.sync ∧ t.vc = State.reset.vc ∧ t.ports = State.reset.ports

/-- R343: a write of index 15 that names no command. -/
def Obligations.ReservedCommandOnlyFlags : Prop :=
  ∀ (v : Word) (s : State), (v.toNat / 256 ≠ 0 ∨ 4 ≤ v.toNat % 256) →
    exec (.regWr 15#4 v) s = .next { s with regs := { s.regs with sticky := s.regs.sticky ||| 0x20#6 } }

/-! ### The synchronizer -/

/-- R152 (with R150, R151). An operation that has to wait answers the unchanged state: that is the model's reading
of R17 (notes/assumptions/3.md). -/
def Obligations.SyncByteStep : Prop :=
  ∀ (b : Byte) (s : State),
    encode (.syncByte b) = ⟨0x0180#16 ++ b, 0#32, []⟩
    ∧ (¬ (s.SyncActive ∧ s.ports.si.head? = some (.byte b)
          ∧ ¬ (s.sync.state = .collect ∧ s.sync.buf.length + 1 = s.sync.curBsize.toNat
               ∧ s.space s.syncOut < 1)) →
        exec (.syncByte b) s = .next s)
    ∧ (∀ q, s.SyncActive → s.ports.si = .byte b :: q → s.sync.state = .search →
        let w0 := s.sync.win ++ [b]
        let w := if w0.length = 5 then w0.drop 1 else w0
        exec (.syncByte b) s = .next { s with
          ports := { s.ports with si := q }
          sync := if w = [0x1A#8, 0xCF#8, 0xFC#8, 0x1D#8] then ⟨.collect, [], [], s.bsize⟩
                  else { s.sync with win := w }
          regs := { s.regs with
            streamPos := s.regs.streamPos + 1#32
            skipCount := if w0.length = 5 then s.regs.skipCount + 1#32 else s.regs.skipCount
            asmCount := if w = [0x1A#8, 0xCF#8, 0xFC#8, 0x1D#8] then s.regs.asmCount + 1#32
                        else s.regs.asmCount } })
    ∧ (∀ q, s.SyncActive → s.ports.si = .byte b :: q → s.sync.state = .collect →
        s.sync.buf.length + 1 ≠ s.sync.curBsize.toNat →
        exec (.syncByte b) s = .next { s with
          ports := { s.ports with si := q }
          sync := { s.sync with buf := s.sync.buf ++ [b] }
          regs := { s.regs with streamPos := s.regs.streamPos + 1#32 } })
    ∧ (∀ q, s.SyncActive → s.ports.si = .byte b :: q → s.sync.state = .collect →
        s.sync.buf.length + 1 = s.sync.curBsize.toNat → 1 ≤ s.space s.syncOut →
        exec (.syncByte b) s = .next { s with
          ports := s.withSyncOut { s.ports with si := q } (s.syncOut ++ [.data (s.sync.buf ++ [b])])
          sync := { s.sync with buf := [], state := .search }
          regs := { s.regs with
            streamPos := s.regs.streamPos + 1#32
            blockCount := s.regs.blockCount + 1#32 } })

/-- R153. An operation that has to wait answers the unchanged state: that is the model's reading of R17
(notes/assumptions/3.md). -/
def Obligations.SyncEndStep : Prop :=
  encode .syncEnd = ⟨0x018100#24, 0#32, []⟩
  ∧ ∀ s : State,
    (¬ (s.SyncActive ∧ s.ports.si.head? = some .endMark ∧ 1 ≤ s.space s.syncOut) →
      exec .syncEnd s = .next s)
    ∧ ∀ q, s.SyncActive → s.ports.si = .endMark :: q → 1 ≤ s.space s.syncOut →
      exec .syncEnd s = .next { s with
        ports := s.withSyncOut { s.ports with si := q } (s.syncOut ++ [.endMark])
        sync := { s.sync with buf := [], win := [], state := .done }
        regs := { s.regs with
          sticky := if s.sync.state = .collect then s.regs.sticky ||| 0x02#6 else s.regs.sticky } }

/-- R154. An operation that has to wait answers the unchanged state: that is the model's reading of R17
(notes/assumptions/3.md). -/
def Obligations.SyncIoErrStep : Prop :=
  encode .syncIoErr = ⟨0x018200#24, 0#32, []⟩
  ∧ ∀ s : State,
    (¬ (s.SyncActive ∧ s.ports.si.head? = some .ioErr ∧ 1 ≤ s.space s.syncOut) →
      exec .syncIoErr s = .next s)
    ∧ ∀ q, s.SyncActive → s.ports.si = .ioErr :: q → 1 ≤ s.space s.syncOut →
      exec .syncIoErr s = .next { s with
        ports := s.withSyncOut { s.ports with si := q } (s.syncOut ++ [.ioErr])
        sync := { s.sync with buf := [], win := [], state := .failed }
        regs := { s.regs with sticky := s.regs.sticky ||| 0x01#6 } }

/-- R155: in DONE and FAILED SYNC takes no step and SI is not consumed, and only a restart or a reset leaves
them; each of these sets SEARCH with an empty window and buffer, and a restart keeps the items in SI. -/
def Obligations.FinishedStreamWaitsForRestart : Prop :=
  (∀ (i : Instr) (s t : State), (s.sync.state = .done ∨ s.sync.state = .failed) → exec i s = .next t →
    (agentOf i = .sync → t = s)
    ∧ ((t.sync = s.sync ∧ ∃ xs, t.ports.si = s.ports.si ++ xs)
      ∨ i = .cmdSyncRestart ∨ i = .cmdSoftReset ∨ i = .regWr 15#4 1#32 ∨ i = .regWr 15#4 3#32))
  ∧ ∀ s : State, ∃ t u : State, exec .cmdSyncRestart s = .next t ∧ exec .cmdSoftReset s = .next u
    ∧ t.sync.state = .search ∧ t.sync.win = [] ∧ t.sync.buf = [] ∧ t.ports = s.ports
    ∧ u.sync.state = .search ∧ u.sync.win = [] ∧ u.sync.buf = []
    ∧ s.hardwareReset.sync.state = .search ∧ s.hardwareReset.sync.win = [] ∧ s.hardwareReset.sync.buf = []

/-- R156, which the spec itself derives from R152 and R153: over one stream, from a fresh SEARCH to End, SYNC emits
exactly `blocks(S, n)` and then End. The turns are the model's list (notes/assumptions/1.md). -/
def Obligations.StreamYieldsItsBlocks : Prop :=
  ∀ (s : State) (S : List Byte),
    s.schedule = List.replicate (S.length + 1) .sync →
    s.ports.si = S.map SiItem.byte ++ [.endMark] →
    s.sync.state = .search → s.sync.win = [] → s.sync.buf = [] →
    s.regs.ctrl.getLsbD 0 = true → 1 ≤ s.bsize.toNat → s.bsize.toNat ≤ s.params.blockMax →
    (blocks S s.bsize.toNat).length + 1 ≤ s.space s.syncOut →
    ∃ t : State, Host.Core.run core (S.length + 1) s = .next t
      ∧ t.syncOut = s.syncOut ++ (blocks S s.bsize.toNat).map BlockItem.data ++ [.endMark]
      ∧ t.ports.si = [] ∧ t.sync.state = .done
      ∧ t.regs.blockCount = s.regs.blockCount + BitVec.ofNat 32 (blocks S s.bsize.toNat).length
      ∧ t.regs.streamPos = s.regs.streamPos + BitVec.ofNat 32 S.length

/-- R51 as a law of one step: the byte that a SYNC.BYTE consumes is accounted for, in SKIP_COUNT, in a marker, in
the window, in the buffer or in the block emitted. -/
def Obligations.EveryByteIsAccountedFor : Prop :=
  ∀ (b : Byte) (s t : State), (s.sync.state = .search → s.sync.buf = []) →
    guardSyncByte b s = true → exec (.syncByte b) s = .next t →
    t.regs.streamPos = s.regs.streamPos + 1#32
    ∧ t.regs.skipCount + 4#32 * t.regs.asmCount + BitVec.ofNat 32 t.sync.win.length
        + BitVec.ofNat 32 t.sync.buf.length + BitVec.ofNat 32 (sizeSum t.syncOut)
      = s.regs.skipCount + 4#32 * s.regs.asmCount + BitVec.ofNat 32 s.sync.win.length
        + BitVec.ofNat 32 s.sync.buf.length + BitVec.ofNat 32 (sizeSum s.syncOut) + 1#32

/-! ### The derandomizer -/

/-- R203 with the table of R202 (and R207): each byte is XORed with the table's, from byte 0 of the block. An
operation that has to wait answers the unchanged state: that is the model's reading of R17
(notes/assumptions/3.md). The bytes of the table are general knowledge in the spec (notes/assumptions/12.md). -/
def Obligations.PnDataStep : Prop :=
  encode .pnData = ⟨0x038000#24, 0#32, []⟩
  ∧ ∀ s : State,
    (¬ ((∃ B, s.ports.pi.head? = some (.data B)) ∧ 1 ≤ s.space s.pnOut) → exec .pnData s = .next s)
    ∧ ∀ B q, s.ports.pi = .data B :: q → 1 ≤ s.space s.pnOut →
      ∃ C : List Byte, C.length = B.length
        ∧ (∀ i, i < B.length →
            (C.getD i 0#8).toNat = (B.getD i 0#8).toNat ^^^ pnTable.getD (i % 255) 0)
        ∧ exec .pnData s = .next { s with
            ports := if s.regs.ctrl.getLsbD 2
              then { s.ports with pi := q, fi := s.ports.fi ++ [.data C] }
              else { s.ports with pi := q, po := s.ports.po ++ [.data C] } }

/-- R204, R205. An operation that has to wait answers the unchanged state: that is the model's reading of R17
(notes/assumptions/3.md). -/
def Obligations.PnPassesEndAndIoErr : Prop :=
  encode .pnEnd = ⟨0x038100#24, 0#32, []⟩ ∧ encode .pnIoErr = ⟨0x038200#24, 0#32, []⟩
  ∧ ∀ s : State,
    (¬ (s.ports.pi.head? = some .endMark ∧ 1 ≤ s.space s.pnOut) → exec .pnEnd s = .next s)
    ∧ (¬ (s.ports.pi.head? = some .ioErr ∧ 1 ≤ s.space s.pnOut) → exec .pnIoErr s = .next s)
    ∧ (∀ q, s.ports.pi = .endMark :: q → 1 ≤ s.space s.pnOut →
        exec .pnEnd s = .next { s with ports := if s.regs.ctrl.getLsbD 2
          then { s.ports with pi := q, fi := s.ports.fi ++ [.endMark] }
          else { s.ports with pi := q, po := s.ports.po ++ [.endMark] } })
    ∧ (∀ q, s.ports.pi = .ioErr :: q → 1 ≤ s.space s.pnOut →
        exec .pnIoErr s = .next { s with ports := if s.regs.ctrl.getLsbD 2
          then { s.ports with pi := q, fi := s.ports.fi ++ [.ioErr] }
          else { s.ports with pi := q, po := s.ports.po ++ [.ioErr] } })

/-- R206, which the spec derives from R203, and 90_conflicts.md C1: applying PN twice restores every block. -/
def Obligations.DerandomizingTwiceRestores : Prop :=
  ∀ B : List Byte, pn (pn B) = B

/-- R200, which the spec takes from general knowledge of the CCSDS generator: the sequence the register yields
satisfies the generator's recurrence from eight ones, its bits have least period 255 with 128 ones in it, the first
bit of a byte is its most significant, and its bytes have period 255. -/
def Obligations.PnSequenceIsTheGenerators : Prop :=
  (∀ k, k < 8 → pnBit k = true)
  ∧ (∀ k, pnBit (k + 8) = (pnBit (k + 7) ^^ pnBit (k + 5) ^^ pnBit (k + 3) ^^ pnBit k))
  ∧ (∀ k, pnBit (k + 255) = pnBit k)
  ∧ (∀ p, 0 < p → p < 255 → ∃ k, pnBit (k + p) ≠ pnBit k)
  ∧ ((List.range 255).filter pnBit).length = 128
  ∧ (∀ i j, j < 8 → (pnByte i).getLsbD (7 - j) = pnBit (8 * i + j))
  ∧ (∀ i, pnByte (i + 255) = pnByte i)

/-! ### The frame parser -/

/-- R231, R232 (with R108 to R110): one frame. A malformed one changes only its item, flag and counter, CFG before
SHORT. A well-formed one: the fields are read by arithmetic on the bytes; the gap test, the missing count and the
table are as R232 gives them, and the `Gap` item stands before the `Frame`. An operation that has to wait answers
the unchanged state: that is the model's reading of R17 (notes/assumptions/3.md). The header layout (R108, R109) is
general knowledge in the spec (notes/assumptions/12.md). -/
def Obligations.FpDataStep : Prop :=
  encode .fpData = ⟨0x058000#24, 0#32, []⟩
  ∧ ∀ s : State,
    (¬ ((∃ B, s.ports.fi.head? = some (.data B)) ∧ 2 ≤ s.space s.ports.fo) → exec .fpData s = .next s)
    ∧ ∀ B q, s.ports.fi = .data B :: q → 2 ≤ s.space s.ports.fo →
      ((s.mo.toNat < 6 ∨ B.length < s.mo.toNat + 2 + s.tl.toNat) →
        ∃ len : BitVec 16, (B.length ≤ s.params.blockMax → len.toNat = B.length)
          ∧ exec .fpData s = .next { s with
              ports := { s.ports with
                fi := q
                fo := s.ports.fo ++ [.malformed (if s.mo.toNat < 6 then 2#2 else 1#2) len] }
              regs := { s.regs with
                sticky := s.regs.sticky ||| 0x04#6
                malformedCount := s.regs.malformedCount + 1#32 } })
      ∧ (6 ≤ s.mo.toNat → s.mo.toNat + 2 + s.tl.toNat ≤ B.length →
        ∃ (r : FrameRec) (v : VcTable) (gaps : List FoItem),
          (let h := fun j => (B.getD j 0#8).toNat
           let mo := s.mo.toNat
           r.version.toNat = h 0 / 64
           ∧ r.scid.toNat = h 0 % 64 * 4 + h 1 / 64
           ∧ r.vcid.toNat = h 1 % 64
           ∧ r.key.toNat = r.scid.toNat * 64 + r.vcid.toNat
           ∧ r.counter.toNat = h 2 * 65536 + h 3 * 256 + h 4
           ∧ r.signal.toNat = h 5
           ∧ r.replay.toNat = h 5 / 128 ∧ r.vcfcUsage.toNat = h 5 / 64 % 2
           ∧ r.sigSpare.toNat = h 5 / 16 % 4 ∧ r.vcfcCycle.toNat = h 5 % 16
           ∧ r.mpduSpare.toNat = h mo / 8
           ∧ r.fhp.toNat = h mo % 8 * 256 + h (mo + 1)
           ∧ (r.fhpNone = true ↔ r.fhp.toNat = 0x7FF)
           ∧ r.payload = (B.drop (mo + 2)).take (B.length - mo - 2 - s.tl.toNat)
           ∧ (B.length ≤ s.params.blockMax → r.frameLen.toNat = B.length))
          ∧ (r.first = true ↔ s.vc.last r.key = none)
          ∧ (∀ l, s.vc.last r.key = some l →
              (r.gap = true ↔ r.counter.toNat ≠ (l.toNat + 1) % 16777216)
              ∧ (r.gap = true → r.missing.toNat = (r.counter.toNat + 16777216 - l.toNat - 1) % 16777216
                  ∧ gaps = [.gap ⟨r.scid, r.vcid, r.key, l, r.counter, r.missing⟩]))
          ∧ (s.vc.last r.key = none → r.gap = false)
          ∧ (r.gap = false → r.missing = 0#24 ∧ gaps = [])
          ∧ v.last r.key = some r.counter ∧ (∀ k, k ≠ r.key → v.last k = s.vc.last k)
          ∧ exec .fpData s = .next { s with
              vc := v
              ports := { s.ports with fi := q, fo := s.ports.fo ++ gaps ++ [.frame r] }
              regs := { s.regs with
                sticky := if r.gap then s.regs.sticky ||| 0x08#6 else s.regs.sticky
                gapCount := if r.gap then s.regs.gapCount + 1#32 else s.regs.gapCount
                frameCount := s.regs.frameCount + 1#32 } })

/-- R237, R238. An operation that has to wait answers the unchanged state: that is the model's reading of R17
(notes/assumptions/3.md). -/
def Obligations.FpPassesEndAndIoErr : Prop :=
  encode .fpEnd = ⟨0x058100#24, 0#32, []⟩ ∧ encode .fpIoErr = ⟨0x058200#24, 0#32, []⟩
  ∧ ∀ s : State,
    (¬ (s.ports.fi.head? = some .endMark ∧ 1 ≤ s.space s.ports.fo) → exec .fpEnd s = .next s)
    ∧ (¬ (s.ports.fi.head? = some .ioErr ∧ 1 ≤ s.space s.ports.fo) → exec .fpIoErr s = .next s)
    ∧ (∀ q, s.ports.fi = .endMark :: q → 1 ≤ s.space s.ports.fo →
        exec .fpEnd s = .next { s with
          ports := { s.ports with fi := q, fo := s.ports.fo ++ [.endMark] } })
    ∧ (∀ q, s.ports.fi = .ioErr :: q → 1 ≤ s.space s.ports.fo →
        exec .fpIoErr s = .next { s with
          ports := { s.ports with fi := q, fo := s.ports.fo ++ [.ioErr] } })

/-- R105, R232: every item on FO keeps the relations between its fields. R105 gives the key, the sub-fields of the
signalling byte, the fhp sentinel, the range of a gap's missing count and a malformed item's reason of 1 or 2; R232
gives that a Frame's `gap` is 1 exactly when its `missing` is not 0, and that a `first` frame has no gap. -/
def Obligations.FoItemsStayConsistent : Prop :=
  ∀ s t : State, s.FoConsistent → step s = .next t → t.FoConsistent

/-- R45, R370: a VC table entry changes only at an FP.DATA step on a frame of its key, at CMD.VC_CLEAR or at a
reset. The key is spelled by the header layout of R108 as R232 reads it, which is general knowledge in the spec
(notes/assumptions/12.md). -/
def Obligations.VcEntryChangesOnlyByItsKey : Prop :=
  ∀ (i : Instr) (s t : State) (k : BitVec 14), exec i s = .next t → t.vc.last k ≠ s.vc.last k →
    (i = .fpData ∧ ∃ B q, s.ports.fi = .data B :: q
      ∧ k.toNat = ((B.getD 0 0#8).toNat % 64 * 4 + (B.getD 1 0#8).toNat / 64) * 64 + (B.getD 1 0#8).toNat % 64)
    ∨ i = .cmdVcClear ∨ i = .cmdSoftReset ∨ i = .regWr 15#4 2#32 ∨ i = .regWr 15#4 3#32

/-! ### The timecode converter -/

/-- R280 with R281, R283, R284, R285: the conversion, exact in every field. An operation that has to wait answers
the unchanged state: that is the model's reading of R17 (notes/assumptions/3.md). -/
def Obligations.TcDecodeStep : Prop :=
  encode .tcDecode = ⟨0x078000#24, 0#32, []⟩
  ∧ ∀ s : State,
    ((s.ports.ti = [] ∨ s.space s.ports.tout = 0) → exec .tcDecode s = .next s)
    ∧ ∀ B q, s.ports.ti = .tc B :: q → 1 ≤ s.space s.ports.tout →
      (B.length < 9 → ∃ n : BitVec 4, n.toNat = B.length
        ∧ exec .tcDecode s = .next { s with
            ports := { s.ports with ti := q, tout := s.ports.tout ++ [.tcErr n] }
            regs := { s.regs with sticky := s.regs.sticky ||| 0x10#6 } })
      ∧ (9 ≤ B.length → ∃ r : TimeRec,
        (let h := fun j => (B.getD j 0#8).toNat
         let t := r.tUs.toNat
         r.day.toNat = h 0 * 256 + h 1
         ∧ r.ms.toNat = h 2 * 16777216 + h 3 * 65536 + h 4 * 256 + h 5
         ∧ r.us.toNat = h 6 * 256 + h 7
         ∧ r.rsv.toNat = h 8
         ∧ t = r.day.toNat * 86400000000 + r.ms.toNat * 1000 + r.us.toNat
         ∧ r.unixUs.toInt = (t : Int) - 378691200000000
         ∧ r.unixS.toInt = r.unixUs.toInt / 1000000
         ∧ (r.unixFrac.toNat : Int) = r.unixUs.toInt % 1000000
         ∧ civil (t / 86400000000) = ⟨r.year.toNat, r.month.toNat, r.mday.toNat⟩
         ∧ r.hour.toNat = t % 86400000000 / 3600000000
         ∧ r.minute.toNat = t % 86400000000 / 60000000 % 60
         ∧ r.second.toNat = t % 86400000000 / 1000000 % 60
         ∧ r.usec.toNat = t % 86400000000 % 1000000)
        ∧ exec .tcDecode s = .next { s with
            ports := { s.ports with ti := q, tout := s.ports.tout ++ [.time r] }
            regs := { s.regs with tcCount := s.regs.tcCount + 1#32 } })

/-- R286, whose leap rule the spec takes from general knowledge: `civil` counts days of the proleptic Gregorian
calendar from 1958-01-01, over the whole range of D. -/
def Obligations.CivilIsGregorian : Prop :=
  civil 0 = ⟨1958, 1, 1⟩ ∧ civil 65584 = ⟨2137, 7, 25⟩
  ∧ ∀ D, D ≤ 65584 →
    civil (D + 1) = (civil D).next
    ∧ 1958 ≤ (civil D).year ∧ (civil D).year ≤ 2137
    ∧ 1 ≤ (civil D).month ∧ (civil D).month ≤ 12
    ∧ 1 ≤ (civil D).mday ∧ (civil D).mday ≤ daysInMonth (civil D).year (civil D).month

/-- R288, which the spec derives from R281, R283 and R285: the nine bytes come back from the constituent fields;
from the calendar fields exactly when the milliseconds and microseconds are in their documented ranges. -/
def Obligations.TimecodeRoundTrips : Prop :=
  ∀ B : List Byte, B.length = 9 →
    (timeRecord B).encodeBytes = B
    ∧ (let r := timeRecord B
       let t := r.tUs.toNat
       (t / 86400000000 = r.day.toNat ∧ t % 86400000000 / 1000 = r.ms.toNat
          ∧ t % 86400000000 % 1000 = r.us.toNat)
        ↔ (r.ms.toNat < 86400000 ∧ r.us.toNat < 1000))

/-! ### The whole machine -/

/-- R43, R45, R47, R105, R31 to R34: every step keeps the invariant of the block. -/
def Obligations.StepKeepsTheInvariant : Prop :=
  ∀ s t : State, s.Inv → step s = .next t → t.Inv

/-- The invariant holds after reset. -/
def Obligations.ResetHasTheInvariant : Prop := State.reset.Inv

/-- R365, R104, R321: from a state with the invariant, a host program of transactions that exist runs for any
number of steps with no stop, under any turns. -/
def Obligations.GoodHostProgramsNeverStop : Prop :=
  ∀ (k : Nat) (s : State), s.Inv → s.HostProgramOk → safeRun k s

/-- R365, R321: an operation either goes on, leaving the parameters, the host's program and the turns alone, or is
a push of an item the port cannot carry. That CMD.SOFT_RESET keeps them is the model's reading
(notes/assumptions/8.md), and that an over-long push is refused also when the port is full is its choice
(notes/assumptions/11.md). -/
def Obligations.OnlyOverlongPushesStop : Prop :=
  ∀ (i : Instr) (s : State),
    (admits i s = true → ∃ t, exec i s = .next t ∧ t.params = s.params ∧ t.host.pending = s.host.pending
      ∧ t.schedule = s.schedule ∧ t.tick = s.tick)
    ∧ (admits i s = false → exec i s = .refused .itemTooLong)

/-- R35: a sticky bit is cleared only by writing 1 to it or by a reset. -/
def Obligations.StickyBitsAreSticky : Prop :=
  ∀ (i : Instr) (s t : State) (j : Nat), exec i s = .next t →
    s.regs.sticky.getLsbD j = true → t.regs.sticky.getLsbD j = false →
    (∃ v : Word, i = .regWr 4#4 v ∧ v.getLsbD (8 + j) = true)
      ∨ i = .cmdSoftReset ∨ i = .regWr 15#4 3#32

/-- R361, R370: no unit step changes a configuration register, the host's side, or another unit's state. -/
def Obligations.UnitsOnlyReadConfiguration : Prop :=
  ∀ (i : Instr) (s t : State), isUnit i = true → exec i s = .next t →
    t.regs.ctrl = s.regs.ctrl ∧ t.regs.blockSize = s.regs.blockSize
    ∧ t.regs.mpduOffset = s.regs.mpduOffset ∧ t.regs.trailerLen = s.regs.trailerLen
    ∧ t.host = s.host
    ∧ (agentOf i ≠ .sync → t.sync = s.sync)
    ∧ (agentOf i ≠ .fp → t.vc = s.vc)

/-- R84 (a): every port is FIFO. Outside a reset a step takes at most the oldest item of a port and appends. -/
def Obligations.PortsAreFifo : Prop :=
  ∀ (i : Instr) (s t : State), exec i s = .next t → i ≠ .cmdSoftReset → i ≠ .regWr 15#4 3#32 →
    s.ports.FifoStep t.ports

/-- R37, R89: STATUS bit 3 is 1 exactly when no unit operation has its guard true; no unit then changes any state;
and it does not mean that all input was processed. -/
def Obligations.IdleMeansNoUnitEnabled : Prop :=
  (∀ s : State,
    ((s.readReg 4#4).getLsbD 3 = true ↔ ∀ i : Instr, isUnit i = true → guard i s = false)
    ∧ ((s.readReg 4#4).getLsbD 3 = true → ∀ a : Agent, a ≠ .host → agentStep a s = .next s))
  ∧ ∃ s : State, (s.readReg 4#4).getLsbD 3 = true ∧ s.ports.si ≠ []

/-- R36: CFG_ERR as STATUS bit 2 shows it, that SYNC then has no enabled step, and the writes that clear it. -/
def Obligations.CfgErrStallsSync : Prop :=
  ∀ s : State,
    ((s.readReg 4#4).getLsbD 2 = true ↔
      (s.regs.ctrl.getLsbD 0 = true ∧ s.sync.state = .search
        ∧ ¬ (1 ≤ s.bsize.toNat ∧ s.bsize.toNat ≤ s.params.blockMax)))
    ∧ ((s.readReg 4#4).getLsbD 2 = true → ∀ i : Instr, agentOf i = .sync → guard i s = false)
    ∧ (∀ (v : Word) (t : State),
        (1 ≤ v.toNat % 65536 ∧ v.toNat % 65536 ≤ s.params.blockMax ∧ exec (.regWr 1#4 v) s = .next t)
          ∨ (v.toNat % 2 = 0 ∧ exec (.regWr 0#4 v) s = .next t) →
        (t.readReg 4#4).getLsbD 2 = false)

/-- R84 (e), the diamond it rests on: enabled steps of two different units may be taken in either order, with the
same result, and neither disables the other. -/
def Obligations.UnitStepsCommute : Prop :=
  ∀ (s : State) (i j : Instr), isUnit i = true → isUnit j = true → agentOf i ≠ agentOf j →
    guard i s = true → guard j s = true →
    ∃ t u v : State, exec i s = .next t ∧ exec j s = .next u
      ∧ guard j t = true ∧ guard i u = true
      ∧ exec j t = .next v ∧ exec i u = .next v

/-- R403, R415: each enabled unit step uses up work, so that the units alone take finitely many. -/
def Obligations.UnitStepsUseUpWork : Prop :=
  ∀ (s : State) (i : Instr), isUnit i = true → guard i s = true →
    ∃ t, exec i s = .next t ∧ t.work < s.work

/-- R403: from every state, giving the units at most `work` turns leads to IDLE = 1. The list of turns is the
model's (notes/assumptions/1.md). -/
def Obligations.UnitsReachIdle : Prop :=
  ∀ s : State, ∃ turns : List Agent, turns.length ≤ s.work ∧ (∀ a ∈ turns, a ≠ .host)
    ∧ ∃ t : State, Host.Core.run core turns.length { s with schedule := turns } = .next t
      ∧ t.idle = true ∧ t.host = s.host

/-- R35, R48, R360: each sticky bit is set only by the operation that raises its event. -/
def Obligations.StickyBitsHaveTheirSetters : Prop :=
  ∀ (i : Instr) (s t : State) (j : Nat), exec i s = .next t →
    s.regs.sticky.getLsbD j = false → t.regs.sticky.getLsbD j = true →
    (j = 0 ∧ i = .syncIoErr) ∨ (j = 1 ∧ i = .syncEnd ∧ s.sync.state = .collect)
      ∨ (j = 2 ∧ i = .fpData) ∨ (j = 3 ∧ i = .fpData) ∨ (j = 4 ∧ i = .tcDecode)
      ∨ (j = 5 ∧ ∃ v : Word, i = .regWr 15#4 v ∧ 4 ≤ v.toNat)
end

