-- ==== Sys2Proof/Laws/Descriptor.lean ====
section
/-! SUPPORT. The fields of a descriptor put together by `mkDesc` are the ones it was put together from; when a row
of the opcode map hits a descriptor, as arithmetic on its number; and when the decoder rejects. -/

namespace Sys2Proof

/-- One bit of a descriptor, by field. -/
theorem getLsbD_mkDesc (p : BitVec 8) (a : Bool) (t : BitVec 7) (u : BitVec 8) (j : Nat) :
    (mkDesc p a t u).getLsbD j =
      if j < 8 then u.getLsbD j
      else if j < 15 then t.getLsbD (j - 8)
      else if j = 15 then a
      else p.getLsbD (j - 16) := by
  show BitVec.getLsbD (w := 8 + 1 + 7 + 8) (p ++ BitVec.ofBool a ++ t ++ u) j = _
  simp only [BitVec.getLsbD_append, BitVec.getLsbD_ofBool]
  by_cases h1 : j < 8
  · simp [h1]
  · by_cases h2 : j < 15
    · simp [h1, h2, show j - 8 < 7 by omega]
    · by_cases h3 : j = 15
      · simp [h3]
      · simp [h1, h2, h3, show ¬ j - 8 < 7 by omega, show ¬ j - 8 - 7 < 1 by omega,
          show j - 8 - 7 - 1 = j - 16 by omega]

@[simp] theorem descA_mkDesc (p : BitVec 8) (a : Bool) (t : BitVec 7) (u : BitVec 8) :
    descA (mkDesc p a t u) = a := by
  rw [descA, getLsbD_mkDesc]; rfl

@[simp] theorem descPort_mkDesc (p : BitVec 8) (a : Bool) (t : BitVec 7) (u : BitVec 8) :
    descPort (mkDesc p a t u) = p := by
  apply BitVec.eq_of_getLsbD_eq
  intro j hj
  simp [descPort, getLsbD_mkDesc, hj, show ¬ 16 + j < 8 by omega, show ¬ 16 + j < 15 by omega,
    show ¬ 16 + j = 15 by omega]

@[simp] theorem descTag_mkDesc (p : BitVec 8) (a : Bool) (t : BitVec 7) (u : BitVec 8) :
    descTag (mkDesc p a t u) = t := by
  apply BitVec.eq_of_getLsbD_eq
  intro j hj
  simp [descTag, getLsbD_mkDesc, hj, show ¬ 8 + j < 8 by omega, show 8 + j < 15 by omega]

@[simp] theorem descSub_mkDesc (p : BitVec 8) (a : Bool) (t : BitVec 7) (u : BitVec 8) :
    descSub (mkDesc p a t u) = u := by
  apply BitVec.eq_of_getLsbD_eq
  intro j hj
  simp [descSub, getLsbD_mkDesc, hj]

/-! ### Rows as arithmetic on the descriptor's number -/

theorem and_byteMask (d : BitVec 24) : d &&& 0xFFFF00#24 = (d >>> 8) <<< 8 := by
  apply BitVec.eq_of_getLsbD_eq
  intro i hi
  interval_cases i <;> simp

theorem and_indexMask (d : BitVec 24) : d &&& 0xFFFFF0#24 = (d >>> 4) <<< 4 := by
  apply BitVec.eq_of_getLsbD_eq
  intro i hi
  interval_cases i <;> simp

theorem and_fullMask (d : BitVec 24) : d &&& 0xFFFFFF#24 = d := BitVec.and_allOnes

/-- A row with a byte field hits by bits 23:8. -/
theorem and_byteMask_eq_iff (d : BitVec 24) (p : Nat) (hp : p < 65536) :
    d &&& 0xFFFF00#24 = BitVec.ofNat 24 (p * 256) ↔ d.toNat / 256 = p := by
  rw [and_byteMask, ← BitVec.toNat_inj]
  have := d.isLt
  simp [Nat.shiftRight_eq_div_pow, Nat.shiftLeft_eq]
  omega

/-- A row with an index field hits by bits 23:4. -/
theorem and_indexMask_eq_iff (d : BitVec 24) (p : Nat) (hp : p < 1048576) :
    d &&& 0xFFFFF0#24 = BitVec.ofNat 24 (p * 16) ↔ d.toNat / 16 = p := by
  rw [and_indexMask, ← BitVec.toNat_inj]
  have := d.isLt
  simp [Nat.shiftRight_eq_div_pow, Nat.shiftLeft_eq]
  omega

/-- The decoder rejects exactly the descriptors that no row hits (R104 (a)). -/
theorem decode_eq_error_iff (t : Transaction) :
    (∃ e, decode t = .error e) ↔ ∀ r ∈ opcodeTable, OpcodeRow.hits t.desc r = false := by
  unfold decode
  split
  · next r h => simpa using ⟨r, List.mem_of_find?_eq_some h, List.find?_some h⟩
  · next h => simpa using h

/-- What the decoder accepts is built by a row that hits the descriptor. -/
theorem decode_eq_ok (t : Transaction) (i : Instr) (h : decode t = .ok i) :
    ∃ r ∈ opcodeTable, OpcodeRow.hits t.desc r = true ∧ i = r.build t := by
  unfold decode at h
  split at h
  · next r hr => cases h; exact ⟨r, List.mem_of_find?_eq_some hr, by simpa using List.find?_some hr, rfl⟩
  · cases h

end Sys2Proof
end

