-- ==== Sys2Proof/Laws/State.lean ====
section
/-! SUPPORT. One lemma per field of State and setter, so that no later proof unfolds a record update. -/

namespace Sys2Proof.Machine

variable (s : State)

@[simp] theorem setRegs_regs (r : Regs) : (s.setRegs r).regs = r := rfl
@[simp] theorem setRegs_sync (r : Regs) : (s.setRegs r).sync = s.sync := rfl
@[simp] theorem setRegs_vc (r : Regs) : (s.setRegs r).vc = s.vc := rfl
@[simp] theorem setRegs_ports (r : Regs) : (s.setRegs r).ports = s.ports := rfl
@[simp] theorem setRegs_params (r : Regs) : (s.setRegs r).params = s.params := rfl
@[simp] theorem setRegs_host (r : Regs) : (s.setRegs r).host = s.host := rfl
@[simp] theorem setRegs_schedule (r : Regs) : (s.setRegs r).schedule = s.schedule := rfl
@[simp] theorem setRegs_tick (r : Regs) : (s.setRegs r).tick = s.tick := rfl
@[simp] theorem setRegs_setRegs (r r' : Regs) : (s.setRegs r).setRegs r' = s.setRegs r' := rfl

@[simp] theorem setSync_regs (u : SyncUnit) : (s.setSync u).regs = s.regs := rfl
@[simp] theorem setSync_sync (u : SyncUnit) : (s.setSync u).sync = u := rfl
@[simp] theorem setSync_vc (u : SyncUnit) : (s.setSync u).vc = s.vc := rfl
@[simp] theorem setSync_ports (u : SyncUnit) : (s.setSync u).ports = s.ports := rfl
@[simp] theorem setSync_params (u : SyncUnit) : (s.setSync u).params = s.params := rfl
@[simp] theorem setSync_host (u : SyncUnit) : (s.setSync u).host = s.host := rfl
@[simp] theorem setSync_schedule (u : SyncUnit) : (s.setSync u).schedule = s.schedule := rfl
@[simp] theorem setSync_tick (u : SyncUnit) : (s.setSync u).tick = s.tick := rfl
@[simp] theorem setSync_setSync (u u' : SyncUnit) : (s.setSync u).setSync u' = s.setSync u' := rfl

@[simp] theorem setVc_regs (v : VcTable) : (s.setVc v).regs = s.regs := rfl
@[simp] theorem setVc_sync (v : VcTable) : (s.setVc v).sync = s.sync := rfl
@[simp] theorem setVc_vc (v : VcTable) : (s.setVc v).vc = v := rfl
@[simp] theorem setVc_ports (v : VcTable) : (s.setVc v).ports = s.ports := rfl
@[simp] theorem setVc_params (v : VcTable) : (s.setVc v).params = s.params := rfl
@[simp] theorem setVc_host (v : VcTable) : (s.setVc v).host = s.host := rfl
@[simp] theorem setVc_schedule (v : VcTable) : (s.setVc v).schedule = s.schedule := rfl
@[simp] theorem setVc_tick (v : VcTable) : (s.setVc v).tick = s.tick := rfl
@[simp] theorem setVc_setVc (v v' : VcTable) : (s.setVc v).setVc v' = s.setVc v' := rfl

@[simp] theorem setPorts_regs (p : Ports) : (s.setPorts p).regs = s.regs := rfl
@[simp] theorem setPorts_sync (p : Ports) : (s.setPorts p).sync = s.sync := rfl
@[simp] theorem setPorts_vc (p : Ports) : (s.setPorts p).vc = s.vc := rfl
@[simp] theorem setPorts_ports (p : Ports) : (s.setPorts p).ports = p := rfl
@[simp] theorem setPorts_params (p : Ports) : (s.setPorts p).params = s.params := rfl
@[simp] theorem setPorts_host (p : Ports) : (s.setPorts p).host = s.host := rfl
@[simp] theorem setPorts_schedule (p : Ports) : (s.setPorts p).schedule = s.schedule := rfl
@[simp] theorem setPorts_tick (p : Ports) : (s.setPorts p).tick = s.tick := rfl
@[simp] theorem setPorts_setPorts (p p' : Ports) : (s.setPorts p).setPorts p' = s.setPorts p' := rfl

@[simp] theorem setHost_regs (h : HostSide) : (s.setHost h).regs = s.regs := rfl
@[simp] theorem setHost_sync (h : HostSide) : (s.setHost h).sync = s.sync := rfl
@[simp] theorem setHost_vc (h : HostSide) : (s.setHost h).vc = s.vc := rfl
@[simp] theorem setHost_ports (h : HostSide) : (s.setHost h).ports = s.ports := rfl
@[simp] theorem setHost_params (h : HostSide) : (s.setHost h).params = s.params := rfl
@[simp] theorem setHost_host (h : HostSide) : (s.setHost h).host = h := rfl
@[simp] theorem setHost_schedule (h : HostSide) : (s.setHost h).schedule = s.schedule := rfl
@[simp] theorem setHost_tick (h : HostSide) : (s.setHost h).tick = s.tick := rfl
@[simp] theorem setHost_setHost (h h' : HostSide) : (s.setHost h).setHost h' = s.setHost h' := rfl

/-! ### The whole state is its parts -/

theorem State.ext_parts {s t : State} (h1 : s.regs = t.regs) (h2 : s.sync = t.sync) (h3 : s.vc = t.vc)
    (h4 : s.ports = t.ports) (h5 : s.params = t.params) (h6 : s.host = t.host)
    (h7 : s.schedule = t.schedule) (h8 : s.tick = t.tick) : s = t := by
  cases s; cases t; simp_all

end Sys2Proof.Machine
end

