-- ==== Sys2Proof/Laws/Ops.lean ====
section
/-! SUPPORT. What each shared operation does, said once: ports, counters, events, resets, replies. -/

namespace Sys2Proof.Machine

variable (s : State)

/-! ### Room in a port -/

theorem State.room_iff {α : Type} (q : List α) (n : Nat) : s.room q n = true ↔ q.length + n ≤ s.params.qDepth := by
  simp [State.room]

theorem State.room_false_iff {α : Type} (q : List α) (n : Nat) :
    s.room q n = false ↔ s.params.qDepth < q.length + n := by
  simp [State.room]

theorem Params.one_le_blockMax (p : Params) : 1 ≤ p.blockMax := by simp [Params.blockMax]

theorem Params.blockMax_le (p : Params) : p.blockMax ≤ 65535 := by
  have := p.blockMaxPred.isLt
  simp only [Params.blockMax]; omega

theorem Params.two_le_qDepth (p : Params) : 2 ≤ p.qDepth := by simp [Params.qDepth]

/-! ### What an operation leaves alone: everything but the part it sets -/

@[simp] theorem pushSi_regs (x : SiItem) : (s.pushSi x).regs = s.regs := rfl
@[simp] theorem pushSi_sync (x : SiItem) : (s.pushSi x).sync = s.sync := rfl
@[simp] theorem pushSi_vc (x : SiItem) : (s.pushSi x).vc = s.vc := rfl
@[simp] theorem pushSi_ports (x : SiItem) : (s.pushSi x).ports = { s.ports with si := s.ports.si ++ [x] } := rfl
@[simp] theorem pushSi_params (x : SiItem) : (s.pushSi x).params = s.params := rfl
@[simp] theorem pushSi_host (x : SiItem) : (s.pushSi x).host = s.host := rfl
@[simp] theorem pushSi_schedule (x : SiItem) : (s.pushSi x).schedule = s.schedule := rfl
@[simp] theorem pushSi_tick (x : SiItem) : (s.pushSi x).tick = s.tick := rfl
@[simp] theorem pushBo_regs (x : BlockItem) : (s.pushBo x).regs = s.regs := rfl
@[simp] theorem pushBo_sync (x : BlockItem) : (s.pushBo x).sync = s.sync := rfl
@[simp] theorem pushBo_vc (x : BlockItem) : (s.pushBo x).vc = s.vc := rfl
@[simp] theorem pushBo_ports (x : BlockItem) : (s.pushBo x).ports = { s.ports with bo := s.ports.bo ++ [x] } := rfl
@[simp] theorem pushBo_params (x : BlockItem) : (s.pushBo x).params = s.params := rfl
@[simp] theorem pushBo_host (x : BlockItem) : (s.pushBo x).host = s.host := rfl
@[simp] theorem pushBo_schedule (x : BlockItem) : (s.pushBo x).schedule = s.schedule := rfl
@[simp] theorem pushBo_tick (x : BlockItem) : (s.pushBo x).tick = s.tick := rfl
@[simp] theorem pushPi_regs (x : BlockItem) : (s.pushPi x).regs = s.regs := rfl
@[simp] theorem pushPi_sync (x : BlockItem) : (s.pushPi x).sync = s.sync := rfl
@[simp] theorem pushPi_vc (x : BlockItem) : (s.pushPi x).vc = s.vc := rfl
@[simp] theorem pushPi_ports (x : BlockItem) : (s.pushPi x).ports = { s.ports with pi := s.ports.pi ++ [x] } := rfl
@[simp] theorem pushPi_params (x : BlockItem) : (s.pushPi x).params = s.params := rfl
@[simp] theorem pushPi_host (x : BlockItem) : (s.pushPi x).host = s.host := rfl
@[simp] theorem pushPi_schedule (x : BlockItem) : (s.pushPi x).schedule = s.schedule := rfl
@[simp] theorem pushPi_tick (x : BlockItem) : (s.pushPi x).tick = s.tick := rfl
@[simp] theorem pushPo_regs (x : BlockItem) : (s.pushPo x).regs = s.regs := rfl
@[simp] theorem pushPo_sync (x : BlockItem) : (s.pushPo x).sync = s.sync := rfl
@[simp] theorem pushPo_vc (x : BlockItem) : (s.pushPo x).vc = s.vc := rfl
@[simp] theorem pushPo_ports (x : BlockItem) : (s.pushPo x).ports = { s.ports with po := s.ports.po ++ [x] } := rfl
@[simp] theorem pushPo_params (x : BlockItem) : (s.pushPo x).params = s.params := rfl
@[simp] theorem pushPo_host (x : BlockItem) : (s.pushPo x).host = s.host := rfl
@[simp] theorem pushPo_schedule (x : BlockItem) : (s.pushPo x).schedule = s.schedule := rfl
@[simp] theorem pushPo_tick (x : BlockItem) : (s.pushPo x).tick = s.tick := rfl
@[simp] theorem pushFi_regs (x : BlockItem) : (s.pushFi x).regs = s.regs := rfl
@[simp] theorem pushFi_sync (x : BlockItem) : (s.pushFi x).sync = s.sync := rfl
@[simp] theorem pushFi_vc (x : BlockItem) : (s.pushFi x).vc = s.vc := rfl
@[simp] theorem pushFi_ports (x : BlockItem) : (s.pushFi x).ports = { s.ports with fi := s.ports.fi ++ [x] } := rfl
@[simp] theorem pushFi_params (x : BlockItem) : (s.pushFi x).params = s.params := rfl
@[simp] theorem pushFi_host (x : BlockItem) : (s.pushFi x).host = s.host := rfl
@[simp] theorem pushFi_schedule (x : BlockItem) : (s.pushFi x).schedule = s.schedule := rfl
@[simp] theorem pushFi_tick (x : BlockItem) : (s.pushFi x).tick = s.tick := rfl
@[simp] theorem pushFo_regs (x : FoItem) : (s.pushFo x).regs = s.regs := rfl
@[simp] theorem pushFo_sync (x : FoItem) : (s.pushFo x).sync = s.sync := rfl
@[simp] theorem pushFo_vc (x : FoItem) : (s.pushFo x).vc = s.vc := rfl
@[simp] theorem pushFo_ports (x : FoItem) : (s.pushFo x).ports = { s.ports with fo := s.ports.fo ++ [x] } := rfl
@[simp] theorem pushFo_params (x : FoItem) : (s.pushFo x).params = s.params := rfl
@[simp] theorem pushFo_host (x : FoItem) : (s.pushFo x).host = s.host := rfl
@[simp] theorem pushFo_schedule (x : FoItem) : (s.pushFo x).schedule = s.schedule := rfl
@[simp] theorem pushFo_tick (x : FoItem) : (s.pushFo x).tick = s.tick := rfl
@[simp] theorem pushTi_regs (x : TiItem) : (s.pushTi x).regs = s.regs := rfl
@[simp] theorem pushTi_sync (x : TiItem) : (s.pushTi x).sync = s.sync := rfl
@[simp] theorem pushTi_vc (x : TiItem) : (s.pushTi x).vc = s.vc := rfl
@[simp] theorem pushTi_ports (x : TiItem) : (s.pushTi x).ports = { s.ports with ti := s.ports.ti ++ [x] } := rfl
@[simp] theorem pushTi_params (x : TiItem) : (s.pushTi x).params = s.params := rfl
@[simp] theorem pushTi_host (x : TiItem) : (s.pushTi x).host = s.host := rfl
@[simp] theorem pushTi_schedule (x : TiItem) : (s.pushTi x).schedule = s.schedule := rfl
@[simp] theorem pushTi_tick (x : TiItem) : (s.pushTi x).tick = s.tick := rfl
@[simp] theorem pushTo_regs (x : ToItem) : (s.pushTo x).regs = s.regs := rfl
@[simp] theorem pushTo_sync (x : ToItem) : (s.pushTo x).sync = s.sync := rfl
@[simp] theorem pushTo_vc (x : ToItem) : (s.pushTo x).vc = s.vc := rfl
@[simp] theorem pushTo_ports (x : ToItem) : (s.pushTo x).ports = { s.ports with tout := s.ports.tout ++ [x] } := rfl
@[simp] theorem pushTo_params (x : ToItem) : (s.pushTo x).params = s.params := rfl
@[simp] theorem pushTo_host (x : ToItem) : (s.pushTo x).host = s.host := rfl
@[simp] theorem pushTo_schedule (x : ToItem) : (s.pushTo x).schedule = s.schedule := rfl
@[simp] theorem pushTo_tick (x : ToItem) : (s.pushTo x).tick = s.tick := rfl
@[simp] theorem popSi_regs : s.popSi.regs = s.regs := rfl
@[simp] theorem popSi_sync : s.popSi.sync = s.sync := rfl
@[simp] theorem popSi_vc : s.popSi.vc = s.vc := rfl
@[simp] theorem popSi_ports : s.popSi.ports = { s.ports with si := s.ports.si.tail } := rfl
@[simp] theorem popSi_params : s.popSi.params = s.params := rfl
@[simp] theorem popSi_host : s.popSi.host = s.host := rfl
@[simp] theorem popSi_schedule : s.popSi.schedule = s.schedule := rfl
@[simp] theorem popSi_tick : s.popSi.tick = s.tick := rfl
@[simp] theorem popBo_regs : s.popBo.regs = s.regs := rfl
@[simp] theorem popBo_sync : s.popBo.sync = s.sync := rfl
@[simp] theorem popBo_vc : s.popBo.vc = s.vc := rfl
@[simp] theorem popBo_ports : s.popBo.ports = { s.ports with bo := s.ports.bo.tail } := rfl
@[simp] theorem popBo_params : s.popBo.params = s.params := rfl
@[simp] theorem popBo_host : s.popBo.host = s.host := rfl
@[simp] theorem popBo_schedule : s.popBo.schedule = s.schedule := rfl
@[simp] theorem popBo_tick : s.popBo.tick = s.tick := rfl
@[simp] theorem popPi_regs : s.popPi.regs = s.regs := rfl
@[simp] theorem popPi_sync : s.popPi.sync = s.sync := rfl
@[simp] theorem popPi_vc : s.popPi.vc = s.vc := rfl
@[simp] theorem popPi_ports : s.popPi.ports = { s.ports with pi := s.ports.pi.tail } := rfl
@[simp] theorem popPi_params : s.popPi.params = s.params := rfl
@[simp] theorem popPi_host : s.popPi.host = s.host := rfl
@[simp] theorem popPi_schedule : s.popPi.schedule = s.schedule := rfl
@[simp] theorem popPi_tick : s.popPi.tick = s.tick := rfl
@[simp] theorem popPo_regs : s.popPo.regs = s.regs := rfl
@[simp] theorem popPo_sync : s.popPo.sync = s.sync := rfl
@[simp] theorem popPo_vc : s.popPo.vc = s.vc := rfl
@[simp] theorem popPo_ports : s.popPo.ports = { s.ports with po := s.ports.po.tail } := rfl
@[simp] theorem popPo_params : s.popPo.params = s.params := rfl
@[simp] theorem popPo_host : s.popPo.host = s.host := rfl
@[simp] theorem popPo_schedule : s.popPo.schedule = s.schedule := rfl
@[simp] theorem popPo_tick : s.popPo.tick = s.tick := rfl
@[simp] theorem popFi_regs : s.popFi.regs = s.regs := rfl
@[simp] theorem popFi_sync : s.popFi.sync = s.sync := rfl
@[simp] theorem popFi_vc : s.popFi.vc = s.vc := rfl
@[simp] theorem popFi_ports : s.popFi.ports = { s.ports with fi := s.ports.fi.tail } := rfl
@[simp] theorem popFi_params : s.popFi.params = s.params := rfl
@[simp] theorem popFi_host : s.popFi.host = s.host := rfl
@[simp] theorem popFi_schedule : s.popFi.schedule = s.schedule := rfl
@[simp] theorem popFi_tick : s.popFi.tick = s.tick := rfl
@[simp] theorem popFo_regs : s.popFo.regs = s.regs := rfl
@[simp] theorem popFo_sync : s.popFo.sync = s.sync := rfl
@[simp] theorem popFo_vc : s.popFo.vc = s.vc := rfl
@[simp] theorem popFo_ports : s.popFo.ports = { s.ports with fo := s.ports.fo.tail } := rfl
@[simp] theorem popFo_params : s.popFo.params = s.params := rfl
@[simp] theorem popFo_host : s.popFo.host = s.host := rfl
@[simp] theorem popFo_schedule : s.popFo.schedule = s.schedule := rfl
@[simp] theorem popFo_tick : s.popFo.tick = s.tick := rfl
@[simp] theorem popTi_regs : s.popTi.regs = s.regs := rfl
@[simp] theorem popTi_sync : s.popTi.sync = s.sync := rfl
@[simp] theorem popTi_vc : s.popTi.vc = s.vc := rfl
@[simp] theorem popTi_ports : s.popTi.ports = { s.ports with ti := s.ports.ti.tail } := rfl
@[simp] theorem popTi_params : s.popTi.params = s.params := rfl
@[simp] theorem popTi_host : s.popTi.host = s.host := rfl
@[simp] theorem popTi_schedule : s.popTi.schedule = s.schedule := rfl
@[simp] theorem popTi_tick : s.popTi.tick = s.tick := rfl
@[simp] theorem popTo_regs : s.popTo.regs = s.regs := rfl
@[simp] theorem popTo_sync : s.popTo.sync = s.sync := rfl
@[simp] theorem popTo_vc : s.popTo.vc = s.vc := rfl
@[simp] theorem popTo_ports : s.popTo.ports = { s.ports with tout := s.ports.tout.tail } := rfl
@[simp] theorem popTo_params : s.popTo.params = s.params := rfl
@[simp] theorem popTo_host : s.popTo.host = s.host := rfl
@[simp] theorem popTo_schedule : s.popTo.schedule = s.schedule := rfl
@[simp] theorem popTo_tick : s.popTo.tick = s.tick := rfl
@[simp] theorem bumpStreamPos_regs : s.bumpStreamPos.regs = { s.regs with streamPos := s.regs.streamPos + 1#32 } := rfl
@[simp] theorem bumpStreamPos_sync : s.bumpStreamPos.sync = s.sync := rfl
@[simp] theorem bumpStreamPos_vc : s.bumpStreamPos.vc = s.vc := rfl
@[simp] theorem bumpStreamPos_ports : s.bumpStreamPos.ports = s.ports := rfl
@[simp] theorem bumpStreamPos_params : s.bumpStreamPos.params = s.params := rfl
@[simp] theorem bumpStreamPos_host : s.bumpStreamPos.host = s.host := rfl
@[simp] theorem bumpStreamPos_schedule : s.bumpStreamPos.schedule = s.schedule := rfl
@[simp] theorem bumpStreamPos_tick : s.bumpStreamPos.tick = s.tick := rfl
@[simp] theorem bumpAsm_regs : s.bumpAsm.regs = { s.regs with asmCount := s.regs.asmCount + 1#32 } := rfl
@[simp] theorem bumpAsm_sync : s.bumpAsm.sync = s.sync := rfl
@[simp] theorem bumpAsm_vc : s.bumpAsm.vc = s.vc := rfl
@[simp] theorem bumpAsm_ports : s.bumpAsm.ports = s.ports := rfl
@[simp] theorem bumpAsm_params : s.bumpAsm.params = s.params := rfl
@[simp] theorem bumpAsm_host : s.bumpAsm.host = s.host := rfl
@[simp] theorem bumpAsm_schedule : s.bumpAsm.schedule = s.schedule := rfl
@[simp] theorem bumpAsm_tick : s.bumpAsm.tick = s.tick := rfl
@[simp] theorem bumpBlock_regs : s.bumpBlock.regs = { s.regs with blockCount := s.regs.blockCount + 1#32 } := rfl
@[simp] theorem bumpBlock_sync : s.bumpBlock.sync = s.sync := rfl
@[simp] theorem bumpBlock_vc : s.bumpBlock.vc = s.vc := rfl
@[simp] theorem bumpBlock_ports : s.bumpBlock.ports = s.ports := rfl
@[simp] theorem bumpBlock_params : s.bumpBlock.params = s.params := rfl
@[simp] theorem bumpBlock_host : s.bumpBlock.host = s.host := rfl
@[simp] theorem bumpBlock_schedule : s.bumpBlock.schedule = s.schedule := rfl
@[simp] theorem bumpBlock_tick : s.bumpBlock.tick = s.tick := rfl
@[simp] theorem bumpSkip_regs : s.bumpSkip.regs = { s.regs with skipCount := s.regs.skipCount + 1#32 } := rfl
@[simp] theorem bumpSkip_sync : s.bumpSkip.sync = s.sync := rfl
@[simp] theorem bumpSkip_vc : s.bumpSkip.vc = s.vc := rfl
@[simp] theorem bumpSkip_ports : s.bumpSkip.ports = s.ports := rfl
@[simp] theorem bumpSkip_params : s.bumpSkip.params = s.params := rfl
@[simp] theorem bumpSkip_host : s.bumpSkip.host = s.host := rfl
@[simp] theorem bumpSkip_schedule : s.bumpSkip.schedule = s.schedule := rfl
@[simp] theorem bumpSkip_tick : s.bumpSkip.tick = s.tick := rfl
@[simp] theorem bumpFrame_regs : s.bumpFrame.regs = { s.regs with frameCount := s.regs.frameCount + 1#32 } := rfl
@[simp] theorem bumpFrame_sync : s.bumpFrame.sync = s.sync := rfl
@[simp] theorem bumpFrame_vc : s.bumpFrame.vc = s.vc := rfl
@[simp] theorem bumpFrame_ports : s.bumpFrame.ports = s.ports := rfl
@[simp] theorem bumpFrame_params : s.bumpFrame.params = s.params := rfl
@[simp] theorem bumpFrame_host : s.bumpFrame.host = s.host := rfl
@[simp] theorem bumpFrame_schedule : s.bumpFrame.schedule = s.schedule := rfl
@[simp] theorem bumpFrame_tick : s.bumpFrame.tick = s.tick := rfl
@[simp] theorem bumpGap_regs : s.bumpGap.regs = { s.regs with gapCount := s.regs.gapCount + 1#32 } := rfl
@[simp] theorem bumpGap_sync : s.bumpGap.sync = s.sync := rfl
@[simp] theorem bumpGap_vc : s.bumpGap.vc = s.vc := rfl
@[simp] theorem bumpGap_ports : s.bumpGap.ports = s.ports := rfl
@[simp] theorem bumpGap_params : s.bumpGap.params = s.params := rfl
@[simp] theorem bumpGap_host : s.bumpGap.host = s.host := rfl
@[simp] theorem bumpGap_schedule : s.bumpGap.schedule = s.schedule := rfl
@[simp] theorem bumpGap_tick : s.bumpGap.tick = s.tick := rfl
@[simp] theorem bumpMalformed_regs : s.bumpMalformed.regs = { s.regs with malformedCount := s.regs.malformedCount + 1#32 } := rfl
@[simp] theorem bumpMalformed_sync : s.bumpMalformed.sync = s.sync := rfl
@[simp] theorem bumpMalformed_vc : s.bumpMalformed.vc = s.vc := rfl
@[simp] theorem bumpMalformed_ports : s.bumpMalformed.ports = s.ports := rfl
@[simp] theorem bumpMalformed_params : s.bumpMalformed.params = s.params := rfl
@[simp] theorem bumpMalformed_host : s.bumpMalformed.host = s.host := rfl
@[simp] theorem bumpMalformed_schedule : s.bumpMalformed.schedule = s.schedule := rfl
@[simp] theorem bumpMalformed_tick : s.bumpMalformed.tick = s.tick := rfl
@[simp] theorem bumpTc_regs : s.bumpTc.regs = { s.regs with tcCount := s.regs.tcCount + 1#32 } := rfl
@[simp] theorem bumpTc_sync : s.bumpTc.sync = s.sync := rfl
@[simp] theorem bumpTc_vc : s.bumpTc.vc = s.vc := rfl
@[simp] theorem bumpTc_ports : s.bumpTc.ports = s.ports := rfl
@[simp] theorem bumpTc_params : s.bumpTc.params = s.params := rfl
@[simp] theorem bumpTc_host : s.bumpTc.host = s.host := rfl
@[simp] theorem bumpTc_schedule : s.bumpTc.schedule = s.schedule := rfl
@[simp] theorem bumpTc_tick : s.bumpTc.tick = s.tick := rfl
@[simp] theorem raiseEvent_regs (e : Event) : (s.raiseEvent e).regs = { s.regs with sticky := s.regs.sticky ||| e.bit } := rfl
@[simp] theorem raiseEvent_sync (e : Event) : (s.raiseEvent e).sync = s.sync := rfl
@[simp] theorem raiseEvent_vc (e : Event) : (s.raiseEvent e).vc = s.vc := rfl
@[simp] theorem raiseEvent_ports (e : Event) : (s.raiseEvent e).ports = s.ports := rfl
@[simp] theorem raiseEvent_params (e : Event) : (s.raiseEvent e).params = s.params := rfl
@[simp] theorem raiseEvent_host (e : Event) : (s.raiseEvent e).host = s.host := rfl
@[simp] theorem raiseEvent_schedule (e : Event) : (s.raiseEvent e).schedule = s.schedule := rfl
@[simp] theorem raiseEvent_tick (e : Event) : (s.raiseEvent e).tick = s.tick := rfl
@[simp] theorem reply_regs (r : Reply) : (s.reply r).regs = s.regs := rfl
@[simp] theorem reply_sync (r : Reply) : (s.reply r).sync = s.sync := rfl
@[simp] theorem reply_vc (r : Reply) : (s.reply r).vc = s.vc := rfl
@[simp] theorem reply_ports (r : Reply) : (s.reply r).ports = s.ports := rfl
@[simp] theorem reply_params (r : Reply) : (s.reply r).params = s.params := rfl
@[simp] theorem reply_host (r : Reply) : (s.reply r).host = { s.host with replies := s.host.replies ++ [r] } := rfl
@[simp] theorem reply_schedule (r : Reply) : (s.reply r).schedule = s.schedule := rfl
@[simp] theorem reply_tick (r : Reply) : (s.reply r).tick = s.tick := rfl

/-! ### The chained output ports (R151, R207) -/

theorem pushSyncOut_chained (h : s.chainPn = true) (x : BlockItem) : s.pushSyncOut x = s.pushPi x := by
  simp [State.pushSyncOut, h]

theorem pushSyncOut_unchained (h : s.chainPn = false) (x : BlockItem) : s.pushSyncOut x = s.pushBo x := by
  simp [State.pushSyncOut, h]

theorem pushPnOut_chained (h : s.chainFp = true) (x : BlockItem) : s.pushPnOut x = s.pushFi x := by
  simp [State.pushPnOut, h]

theorem pushPnOut_unchained (h : s.chainFp = false) (x : BlockItem) : s.pushPnOut x = s.pushPo x := by
  simp [State.pushPnOut, h]

@[simp] theorem pushSyncOut_regs (x : BlockItem) : (s.pushSyncOut x).regs = s.regs := by
  simp only [State.pushSyncOut]; split <;> rfl
@[simp] theorem pushSyncOut_sync (x : BlockItem) : (s.pushSyncOut x).sync = s.sync := by
  simp only [State.pushSyncOut]; split <;> rfl
@[simp] theorem pushSyncOut_vc (x : BlockItem) : (s.pushSyncOut x).vc = s.vc := by
  simp only [State.pushSyncOut]; split <;> rfl
@[simp] theorem pushSyncOut_params (x : BlockItem) : (s.pushSyncOut x).params = s.params := by
  simp only [State.pushSyncOut]; split <;> rfl
@[simp] theorem pushSyncOut_host (x : BlockItem) : (s.pushSyncOut x).host = s.host := by
  simp only [State.pushSyncOut]; split <;> rfl
@[simp] theorem pushSyncOut_schedule (x : BlockItem) : (s.pushSyncOut x).schedule = s.schedule := by
  simp only [State.pushSyncOut]; split <;> rfl
@[simp] theorem pushSyncOut_tick (x : BlockItem) : (s.pushSyncOut x).tick = s.tick := by
  simp only [State.pushSyncOut]; split <;> rfl
@[simp] theorem pushPnOut_regs (x : BlockItem) : (s.pushPnOut x).regs = s.regs := by
  simp only [State.pushPnOut]; split <;> rfl
@[simp] theorem pushPnOut_sync (x : BlockItem) : (s.pushPnOut x).sync = s.sync := by
  simp only [State.pushPnOut]; split <;> rfl
@[simp] theorem pushPnOut_vc (x : BlockItem) : (s.pushPnOut x).vc = s.vc := by
  simp only [State.pushPnOut]; split <;> rfl
@[simp] theorem pushPnOut_params (x : BlockItem) : (s.pushPnOut x).params = s.params := by
  simp only [State.pushPnOut]; split <;> rfl
@[simp] theorem pushPnOut_host (x : BlockItem) : (s.pushPnOut x).host = s.host := by
  simp only [State.pushPnOut]; split <;> rfl
@[simp] theorem pushPnOut_schedule (x : BlockItem) : (s.pushPnOut x).schedule = s.schedule := by
  simp only [State.pushPnOut]; split <;> rfl
@[simp] theorem pushPnOut_tick (x : BlockItem) : (s.pushPnOut x).tick = s.tick := by
  simp only [State.pushPnOut]; split <;> rfl

/-! ### Events (R360) -/

@[simp] theorem MalformedReason.code_short : MalformedReason.code .short = 1#2 := rfl
@[simp] theorem MalformedReason.code_cfg : MalformedReason.code .cfg = 2#2 := rfl

/-- The reason a `Malformed` item records is one of the two that R105 gives. -/
theorem MalformedReason.code_eq_one_or_two (r : MalformedReason) : r.code = 1#2 ∨ r.code = 2#2 := by
  cases r
  · exact .inl rfl
  · exact .inr rfl

@[simp] theorem Event.bit_ioErr : Event.bit .ioErr = 0x01#6 := rfl
@[simp] theorem Event.bit_trunc : Event.bit .trunc = 0x02#6 := rfl
@[simp] theorem Event.bit_malformed : Event.bit .malformed = 0x04#6 := rfl
@[simp] theorem Event.bit_gap : Event.bit .gap = 0x08#6 := rfl
@[simp] theorem Event.bit_tcErr : Event.bit .tcErr = 0x10#6 := rfl
@[simp] theorem Event.bit_cmdErr : Event.bit .cmdErr = 0x20#6 := rfl

/-- Raising an event sets its bit and no other, and clears none. -/
theorem raiseEvent_getLsbD (e : Event) (j : Nat) :
    (s.raiseEvent e).regs.sticky.getLsbD j = (s.regs.sticky.getLsbD j || e.bit.getLsbD j) := by
  simp

/-- W1C (R338): a sticky bit survives exactly when it is not written as 1. -/
theorem clearSticky_getLsbD (v : Word) (j : Nat) (hj : j < 6) :
    (s.clearSticky v).regs.sticky.getLsbD j = (s.regs.sticky.getLsbD j && !(v.getLsbD (8 + j))) := by
  simp [State.clearSticky, hj]

/-! ### Guarded steps -/

@[simp] theorem whenEnabled_true (t : State) : whenEnabled true t s = .next t := rfl
@[simp] theorem whenEnabled_false (t : State) : whenEnabled false t s = .next s := rfl

/-- A guarded operation always answers a next state: its body's, or the state as it was. -/
theorem whenEnabled_cases {g : Bool} {body s t : State} (h : whenEnabled g body s = .next t) :
    (g = true ∧ t = body) ∨ (g = false ∧ t = s) := by
  cases g <;> simp_all [whenEnabled]

/-! ### The VC table (R45) -/

theorem VcTable.mem_record {v : VcTable} {k : BitVec 14} {c : BitVec 24} {e : BitVec 14 × BitVec 24}
    (h : e ∈ v.record k c) : e = (k, c) ∨ e ∈ v := by
  induction v with
  | nil => simpa [VcTable.record] using h
  | cons a rest ih =>
    simp only [VcTable.record] at h
    split at h
    · simpa using h
    · split at h
      · rcases List.mem_cons.mp h with h | h
        · exact .inl h
        · exact .inr (List.mem_cons_of_mem _ h)
      · rcases List.mem_cons.mp h with h | h
        · exact .inr (h ▸ List.mem_cons_self)
        · rcases ih h with h | h
          · exact .inl h
          · exact .inr (List.mem_cons_of_mem _ h)

/-- Recording a counter keeps the canonical form. -/
theorem VcTable.record_wf {v : VcTable} (k : BitVec 14) (c : BitVec 24) (h : v.wf) : (v.record k c).wf := by
  induction v with
  | nil => simp [VcTable.record, VcTable.wf]
  | cons a rest ih =>
    obtain ⟨ha, hr⟩ := List.pairwise_cons.mp h
    simp only [VcTable.record]
    split
    · rename_i hk
      refine List.pairwise_cons.mpr ⟨fun e he => ?_, h⟩
      rcases List.mem_cons.mp he with he | he
      · simpa [he] using hk
      · exact BitVec.lt_trans hk (ha e he)
    · split
      · rename_i hk
        exact List.pairwise_cons.mpr ⟨fun e he => by simpa [hk] using ha e he, hr⟩
      · rename_i h1 h2
        refine List.pairwise_cons.mpr ⟨fun e he => ?_, ih hr⟩
        rcases VcTable.mem_record he with he | he
        · subst he
          simp only [BitVec.lt_def, ← BitVec.toNat_inj] at h1 h2 ⊢
          omega
        · exact ha e he

/-- The recorded counter is the last one of its key. -/
theorem VcTable.last_record_self (v : VcTable) (k : BitVec 14) (c : BitVec 24) :
    (v.record k c).last k = some c := by
  induction v with
  | nil => simp [VcTable.record, VcTable.last]
  | cons a rest ih =>
    simp only [VcTable.record]
    split
    · simp [VcTable.last]
    · split
      · simp [VcTable.last]
      · rename_i _ h
        simpa [VcTable.last, List.find?_cons, Ne.symm (show k ≠ a.1 from h)] using ih

/-- Keys are independent. -/
theorem VcTable.last_record_other (v : VcTable) {k k' : BitVec 14} (c : BitVec 24) (hk : k' ≠ k) :
    (v.record k c).last k' = v.last k' := by
  induction v with
  | nil => simp [VcTable.record, VcTable.last, Ne.symm hk]
  | cons a rest ih =>
    simp only [VcTable.record]
    split
    · simp [VcTable.last, List.find?_cons, Ne.symm hk]
    · split
      · rename_i _ h
        simp [VcTable.last, ← h, Ne.symm hk]
      · by_cases ha : a.1 = k'
        · simp [VcTable.last, ha]
        · simpa [VcTable.last, List.find?_cons, ha] using ih

@[simp] theorem VcTable.last_nil (k : BitVec 14) : VcTable.last [] k = none := rfl

/-! ### Turns -/

theorem turn_of_schedule {a : Agent} {rest : List Agent} (h : s.schedule = a :: rest) : s.turn = a := by
  simp [State.turn, h]

theorem advance_of_schedule {a : Agent} {rest : List Agent} (h : s.schedule = a :: rest) :
    s.advance = { s with schedule := rest } := by
  simp [State.advance, h]

end Sys2Proof.Machine
end

