-- ==== Sys2Proof/Laws/PerInstr.lean ====
section
/-! SUPPORT. A statement about every operation as syntax: the A bit of its descriptor says whether it is a unit
step (R100), and its PORT identifies the unit (R370). -/

namespace Sys2Proof.Laws.ABit

open Sys2Proof Sys2Proof.Machine

/-- PORT of the unit an agent is (R370); the host is none. -/
def unitPort : Agent → Option (BitVec 8)
  | .host => none
  | .sync => some 0x01#8
  | .pn => some 0x03#8
  | .fp => some 0x05#8
  | .tc => some 0x07#8

/-- A = 1 exactly for a unit step, and then PORT is the unit's. -/
def Statement (i : Instr) : Prop :=
  (descA (encode i).desc = true ↔ agentOf i ≠ .host)
    ∧ ∀ p, unitPort (agentOf i) = some p → descPort (encode i).desc = p

theorem pushSiByte (b : Byte) : Statement (.pushSiByte b) := by
  simp [Statement, encode, hostDesc, agentOf, unitPort]

theorem pushSiEnd : Statement .pushSiEnd := by
  simp [Statement, encode, hostDesc, agentOf, unitPort]

theorem pushSiIoErr : Statement .pushSiIoErr := by
  simp [Statement, encode, hostDesc, agentOf, unitPort]

theorem pushPiData (B : List Byte) : Statement (.pushPiData B) := by
  simp [Statement, encode, hostDesc, agentOf, unitPort]

theorem pushPiEnd : Statement .pushPiEnd := by
  simp [Statement, encode, hostDesc, agentOf, unitPort]

theorem pushPiIoErr : Statement .pushPiIoErr := by
  simp [Statement, encode, hostDesc, agentOf, unitPort]

theorem pushFiData (B : List Byte) : Statement (.pushFiData B) := by
  simp [Statement, encode, hostDesc, agentOf, unitPort]

theorem pushFiEnd : Statement .pushFiEnd := by
  simp [Statement, encode, hostDesc, agentOf, unitPort]

theorem pushFiIoErr : Statement .pushFiIoErr := by
  simp [Statement, encode, hostDesc, agentOf, unitPort]

theorem pushTiTc (B : List Byte) : Statement (.pushTiTc B) := by
  simp [Statement, encode, hostDesc, agentOf, unitPort]

theorem popBo : Statement .popBo := by
  simp [Statement, encode, hostDesc, agentOf, unitPort]

theorem popPo : Statement .popPo := by
  simp [Statement, encode, hostDesc, agentOf, unitPort]

theorem popFo : Statement .popFo := by
  simp [Statement, encode, hostDesc, agentOf, unitPort]

theorem popTo : Statement .popTo := by
  simp [Statement, encode, hostDesc, agentOf, unitPort]

theorem regRd (k : BitVec 4) : Statement (.regRd k) := by
  simp [Statement, encode, hostDesc, agentOf, unitPort]

theorem regWr (k : BitVec 4) (v : Word) : Statement (.regWr k v) := by
  simp [Statement, encode, hostDesc, agentOf, unitPort]

theorem cmdNop : Statement .cmdNop := by
  simp [Statement, encode, hostDesc, agentOf, unitPort]

theorem cmdSyncRestart : Statement .cmdSyncRestart := by
  simp [Statement, encode, hostDesc, agentOf, unitPort]

theorem cmdVcClear : Statement .cmdVcClear := by
  simp [Statement, encode, hostDesc, agentOf, unitPort]

theorem cmdSoftReset : Statement .cmdSoftReset := by
  simp [Statement, encode, hostDesc, agentOf, unitPort]

theorem syncByte (b : Byte) : Statement (.syncByte b) := by
  simp [Statement, encode, unitDesc, agentOf, unitPort, Space.number]

theorem syncEnd : Statement .syncEnd := by
  simp [Statement, encode, unitDesc, agentOf, unitPort, Space.number]

theorem syncIoErr : Statement .syncIoErr := by
  simp [Statement, encode, unitDesc, agentOf, unitPort, Space.number]

theorem pnData : Statement .pnData := by
  simp [Statement, encode, unitDesc, agentOf, unitPort, Space.number]

theorem pnEnd : Statement .pnEnd := by
  simp [Statement, encode, unitDesc, agentOf, unitPort, Space.number]

theorem pnIoErr : Statement .pnIoErr := by
  simp [Statement, encode, unitDesc, agentOf, unitPort, Space.number]

theorem fpData : Statement .fpData := by
  simp [Statement, encode, unitDesc, agentOf, unitPort, Space.number]

theorem fpEnd : Statement .fpEnd := by
  simp [Statement, encode, unitDesc, agentOf, unitPort, Space.number]

theorem fpIoErr : Statement .fpIoErr := by
  simp [Statement, encode, unitDesc, agentOf, unitPort, Space.number]

theorem tcDecode : Statement .tcDecode := by
  simp [Statement, encode, unitDesc, agentOf, unitPort, Space.number]

end Sys2Proof.Laws.ABit
end

