-- ==== Sys2Proof/Tests/Slice0.lean ====
section
/-! SUPPORT. Tests: words decoded by hand from the spec's encodings, ill-formed terms refused, single steps against
the vectors of 95_test_vectors.md, and for each statement with hypotheses a concrete state that meets them. -/

namespace Sys2Proof.Tests

open Sys2Proof Sys2Proof.Machine

/-! ### Small states -/

/-- BLOCK_MAX = 1275 and Q_DEPTH = 8, as the vectors assume. -/
def base : State := { State.reset with params := ⟨1274, 6⟩ }

/-- BLOCK_MAX = 1275 and Q_DEPTH = 2. -/
def shallow : State := { State.reset with params := ⟨1274, 0⟩ }

/-- SYNC enabled with BSIZE = n. -/
def syncOn (s : State) (n : Nat) : State :=
  s.setRegs { s.regs with ctrl := s.regs.ctrl ||| 1#32, blockSize := BitVec.ofNat 32 n }

/-- SI holding the given items. -/
def withSi (s : State) (q : List SiItem) : State := s.setPorts { s.ports with si := q }
/-- PI holding the given items. -/
def withPi (s : State) (q : List BlockItem) : State := s.setPorts { s.ports with pi := q }
/-- FI holding the given items. -/
def withFi (s : State) (q : List BlockItem) : State := s.setPorts { s.ports with fi := q }
/-- TI holding one timecode. -/
def withTc (s : State) (B : List Byte) : State := s.setPorts { s.ports with ti := [.tc B] }

/-- The next state, if there is one. -/
def nextOf : Host.Outcome State Fault Refusal → Option State
  | .next t => some t
  | .fault _ | .refused _ => none

/-- The refusal, if there is one. -/
def refusalOf : Host.Outcome State Fault Refusal → Option Refusal
  | .refused r => some r
  | .next _ | .fault _ => none

/-- What FO holds after FP.DATA on the frame `B`. -/
def fpOut (s : State) (B : List Byte) : Option (List FoItem) :=
  (nextOf (exec .fpData (withFi s [.data B]))).map (fun t => t.ports.fo)

/-- What TO holds after TC.DECODE on the timecode `B`. -/
def tcOut (B : List Byte) : Option (List ToItem) :=
  (nextOf (exec .tcDecode (withTc base B))).map (fun t => t.ports.tout)

/-! ### Decoding (words written out from 30_encoding.md R103) -/

theorem test_decode_push_si :
    decodeTableWord 24 0x01001A = some (.pushSiByte 0x1A#8) ∧ decodeTableWord 24 0x010100 = some .pushSiEnd
      ∧ decodeTableWord 24 0x010200 = some .pushSiIoErr := by decide

theorem test_decode_push_pi :
    decode ⟨0x030000#24, 0#32, [1#8, 2#8]⟩ = .ok (.pushPiData [1#8, 2#8])
      ∧ decodeTableWord 24 0x030100 = some .pushPiEnd ∧ decodeTableWord 24 0x030200 = some .pushPiIoErr :=
  ⟨rfl, by decide, by decide⟩

theorem test_decode_push_fi :
    decodeTableWord 24 0x050000 = some (.pushFiData []) ∧ decodeTableWord 24 0x050100 = some .pushFiEnd
      ∧ decodeTableWord 24 0x050200 = some .pushFiIoErr := by decide

theorem test_decode_push_ti : decodeTableWord 24 0x070000 = some (.pushTiTc []) := by decide

theorem test_decode_pop :
    decodeTableWord 24 0x020000 = some .popBo ∧ decodeTableWord 24 0x040000 = some .popPo
      ∧ decodeTableWord 24 0x060000 = some .popFo ∧ decodeTableWord 24 0x080000 = some .popTo := by decide

theorem test_decode_reg :
    decodeTableWord 24 0x10000C = some (.regRd 12#4) ∧ decodeTableWord 24 0x100104 = some (.regWr 4#4 0#32) := by
  decide

theorem test_decode_cmd :
    decodeTableWord 24 0x110000 = some .cmdNop ∧ decodeTableWord 24 0x110001 = some .cmdSyncRestart
      ∧ decodeTableWord 24 0x110002 = some .cmdVcClear ∧ decodeTableWord 24 0x110003 = some .cmdSoftReset := by
  decide

theorem test_decode_sync :
    decodeTableWord 24 0x0180FC = some (.syncByte 0xFC#8) ∧ decodeTableWord 24 0x018100 = some .syncEnd
      ∧ decodeTableWord 24 0x018200 = some .syncIoErr := by decide

theorem test_decode_pn :
    decodeTableWord 24 0x038000 = some .pnData ∧ decodeTableWord 24 0x038100 = some .pnEnd
      ∧ decodeTableWord 24 0x038200 = some .pnIoErr := by decide

theorem test_decode_fp :
    decodeTableWord 24 0x058000 = some .fpData ∧ decodeTableWord 24 0x058100 = some .fpEnd
      ∧ decodeTableWord 24 0x058200 = some .fpIoErr := by decide

theorem test_decode_tc : decodeTableWord 24 0x078000 = some .tcDecode := by decide

/-- Program P3, line 10: the reserved command is a REG.WR of index 15. -/
theorem test_decode_reserved_command :
    decode ⟨0x10010F#24, 0x101#32, []⟩ = .ok (.regWr 15#4 0x101#32)
      ∧ decode ⟨0x10010F#24, 1#32, []⟩ = .ok .cmdSyncRestart := ⟨rfl, rfl⟩

/-- R104 (a), one word of each kind, each rejected under its name. -/
theorem test_decode_rejects_by_name :
    decodeError 0x000000#24 = .reservedPort ∧ decodeError 0x090000#24 = .reservedPort
      ∧ decodeError 0x028000#24 = .noUnitThere ∧ decodeError 0x030300#24 = .tagNotCarried
      ∧ decodeError 0x010600#24 = .reservedTag ∧ decodeError 0x100010#24 = .registerIndex
      ∧ decodeError 0x110004#24 = .commandCode ∧ decodeError 0x010101#24 = .subNotZero := by decide

theorem test_encode_program_lines :
    (encode (.regWr 1#4 8#32)).desc = 0x100101#24 ∧ (encode .popFo).desc = 0x060000#24
      ∧ (encode (.syncByte 0x1A#8)).desc = 0x01801A#24 := by decide

/-! ### WellFormed: an ill-formed term for each check -/

theorem test_illformed_pi_item : (Instr.pushPiData (List.replicate 65536 0#8)).wf = false := by
  simp only [Instr.wf, List.length_replicate]; rfl

theorem test_illformed_fi_item : (Instr.pushFiData (List.replicate 65536 0#8)).wf = false := by
  simp only [Instr.wf, List.length_replicate]; rfl

theorem test_illformed_timecode : (Instr.pushTiTc (List.replicate 10 0#8)).wf = false := by decide

theorem test_illformed_command : (Instr.regWr 15#4 3#32).wf = false := by decide

theorem test_wellformed_reserved_command : (Instr.regWr 15#4 4#32).wf = true := by decide

/-! ### Single steps against the vectors -/

/-- V-SY-3: the false start `1A CF 1A CF FC 1D`; at its last byte the window slides and is the marker. -/
theorem test_sync_false_start :
    (nextOf (exec (.syncByte 0x1D#8)
      ((withSi (syncOn base 1) [.byte 0x1D#8]).setSync ⟨.search, [0xCF#8, 0x1A#8, 0xCF#8, 0xFC#8], [], 0#16⟩))).map
      (fun t => (t.sync, t.regs.skipCount, t.regs.asmCount)) = some (⟨.collect, [], [], 1#16⟩, 1#32, 1#32) := by
  decide

/-- V-SY-1: the byte that completes the block. -/
theorem test_sync_completes_block :
    (nextOf (exec (.syncByte 0xBB#8)
      ((withSi (syncOn base 2) [.byte 0xBB#8]).setSync ⟨.collect, [], [0xAA#8], 2#16⟩))).map
      (fun t => (t.ports.bo, t.sync.state, t.regs.blockCount)) = some ([.data [0xAA#8, 0xBB#8]], .search, 1#32) := by
  decide

/-- V-SY-9: with BSIZE illegal SYNC stalls and STATUS reads 0x00C. -/
theorem test_sync_cfg_err :
    (nextOf (exec (.syncByte 0x1A#8) (withSi (syncOn base 0) [.byte 0x1A#8]))).map
      (fun t => (t.ports.si, t.statusWord)) = some ([.byte 0x1A#8], 0x0C#32) := by decide

/-- V-SY-17: the completing byte waits for room; STATUS reads 0x009. -/
theorem test_sync_backpressure :
    (nextOf (exec (.syncByte 2#8)
      (((syncOn shallow 2).setPorts { Ports.reset with si := [.byte 2#8], bo := [.endMark, .endMark] }).setSync
        ⟨.collect, [], [1#8], 2#16⟩))).map (fun t => (t.ports.si, t.statusWord)) = some ([.byte 2#8], 0x09#32) := by
  decide

/-- V-SY-6: End in COLLECT; STATUS reads 0x20A. -/
theorem test_sync_end_truncates :
    (nextOf (exec .syncEnd ((withSi (syncOn base 4) [.endMark]).setSync ⟨.collect, [], [1#8, 2#8], 4#16⟩))).map
      (fun t => (t.ports.bo, t.statusWord)) = some ([.endMark], 0x20A#32) := by decide

/-- V-SY-8: IoErr in COLLECT; STATUS reads 0x10B. -/
theorem test_sync_io_err :
    (nextOf (exec .syncIoErr ((withSi (syncOn base 4) [.ioErr]).setSync ⟨.collect, [], [1#8], 4#16⟩))).map
      (fun t => (t.ports.bo, t.statusWord)) = some ([.ioErr], 0x10B#32) := by decide

/-- V-PN-1. -/
theorem test_pn_first_bytes : pn [0#8, 0#8, 0#8, 0#8, 0#8] = [0xFF#8, 0x48#8, 0x0E#8, 0xC0#8, 0x9A#8] := by decide

/-- V-PN-5. -/
theorem test_pn_xor :
    pn (List.replicate 8 0xAA#8) = [0x55#8, 0xE2#8, 0xA4#8, 0x6A#8, 0x30#8, 0xA7#8, 0xDA#8, 0x16#8] := by decide

/-- V-PN-8: with CHAIN_FP = 1 the block goes to FI. -/
theorem test_pn_chained :
    (nextOf (exec .pnData ((withPi base [.data [0#8]]).setRegs { Regs.reset with ctrl := 4#32 }))).map
      (fun t => (t.ports.po, t.ports.fi)) = some ([], [.data [0xFF#8]]) := by decide

/-- V-FP-1 (R232's example). -/
theorem test_fp_example :
    fpOut base [0x6C#8, 0x50#8, 0xB8#8, 0x49#8, 0x03#8, 0#8, 0#8, 0#8, 0xAA#8, 0xBB#8] = some [.frame
      { version := 1#2, scid := 177#8, vcid := 16#6, key := 11344#14, counter := 12077315#24, signal := 0#8
        replay := 0#1, vcfcUsage := 0#1, sigSpare := 0#2, vcfcCycle := 0#4, mpduSpare := 0#5, fhp := 0#11
        fhpNone := false, payload := [0xAA#8, 0xBB#8], frameLen := 10#16
        first := true, gap := false, missing := 0#24 }] := by decide

/-- V-FP-3: the gap of 2 before the frame. -/
theorem test_fp_gap :
    (fpOut (base.setVc [(66#14, 11#24)]) [0x40#8, 0x42#8, 0#8, 0#8, 14#8, 0#8, 0#8, 0#8]).map List.head? =
      some (some (.gap ⟨1#8, 2#6, 66#14, 11#24, 14#24, 2#24⟩)) := by decide

/-- V-FP-4: the counter wraps with no gap. -/
theorem test_fp_counter_wraps :
    (fpOut (base.setVc [(66#14, 0xFFFFFF#24)]) [0x40#8, 0x42#8, 0#8, 0#8, 0#8, 0#8, 0#8, 0#8]).map List.length =
      some 1 := by decide

/-- V-FP-7 and V-FP-8: SHORT = 1, and CFG = 2 before SHORT (codes of R105). -/
theorem test_fp_malformed :
    fpOut base [0x40#8, 0x42#8, 0#8, 0#8, 5#8, 0#8, 0#8] = some [.malformed 1#2 7#16]
      ∧ fpOut (base.setRegs { Regs.reset with mpduOffset := 5#32 })
          [0x40#8, 0x42#8, 0#8, 0#8, 5#8, 0#8, 0#8, 0#8] = some [.malformed 2#2 8#16] := by decide

/-- V-TC-9: the largest input. -/
theorem test_tc_largest :
    tcOut (List.replicate 8 0xFF#8 ++ [0x12#8]) = some [.time
      { day := 65535#16, ms := 4294967295#32, us := 65535#16, rsv := 0x12#8, tUs := 5666518967360535#53
        unixUs := 5287827767360535#64, unixS := 5287827767#64, unixFrac := 360535#20
        year := 2137#16, month := 7#4, mday := 25#5, hour := 17#5, minute := 2#6, second := 47#6
        usec := 360535#20 }] := by decide +kernel

/-- V-TC-3: floor division of a negative value. -/
theorem test_tc_before_1970 :
    (timeRecord [0x02#8, 0xC9#8, 0x05#8, 0x26#8, 0x5B#8, 0xFF#8, 0x03#8, 0xE7#8, 0#8]).unixUs.toInt = -317001600000001
      ∧ (timeRecord [0x02#8, 0xC9#8, 0x05#8, 0x26#8, 0x5B#8, 0xFF#8, 0x03#8, 0xE7#8, 0#8]).unixS.toInt = -317001601
      ∧ (timeRecord [0x02#8, 0xC9#8, 0x05#8, 0x26#8, 0x5B#8, 0xFF#8, 0x03#8, 0xE7#8, 0#8]).unixFrac = 999999#20 := by
  decide

/-- V-TC-11. -/
theorem test_tc_short : tcOut (List.replicate 8 0#8) = some [.tcErr 8#4] := by decide

/-- V-TC-4 and V-TC-5: the leap day of 1960 and the day after. -/
theorem test_civil_leap_day : civil 789 = ⟨1960, 2, 29⟩ ∧ civil 790 = ⟨1960, 3, 1⟩ := by decide

/-- V-L1-1's rendering (R287). -/
theorem test_rendering :
    (timeRecord [0x52#8, 0xC0#8, 0#8, 0#8, 0#8, 0xA7#8, 0#8, 0xDB#8, 0xFF#8]).render =
      ['2', '0', '1', '6', '-', '0', '1', '-', '0', '1', 'T', '0', '0', ':', '0', '0', ':', '0', '0', '.',
        '1', '6', '7', '2', '1', '9', '0', '0', '0', ' ', 'U', 'T', 'C'] := by decide

/-- V-H-3, V-H-4. -/
theorem test_reg_reserved_bits :
    (nextOf (exec (.regWr 1#4 0x12345#32) base)).map (fun t => t.readReg 1#4) = some 0x2345#32
      ∧ (nextOf (exec (.regWr 0#4 0xFFFFFFFF#32) base)).map (fun t => t.readReg 0#4) = some 7#32 := by decide

/-- V-H-7: W1C clears only the bits written as 1 (STATUS 0xC08 before). -/
theorem test_status_w1c :
    (nextOf (exec (.regWr 4#4 0x800#32) (base.setRegs { Regs.reset with sticky := 0x0C#6 }))).map
      (fun t => t.statusWord) = some 0x408#32 := by decide

/-- V-H-9, V-H-10. -/
theorem test_reserved_command :
    (nextOf (exec (.regWr 15#4 4#32) base)).map (fun t => t.statusWord) = some 0x2008#32
      ∧ (nextOf (exec (.regWr 15#4 0x101#32) base)).map (fun t => t.statusWord) = some 0x2008#32 := by decide

/-- V-H-1: REG.RD of STATUS right after reset, and R115: `clrstatus`, `pushasm`. -/
theorem test_rd_status_after_reset :
    (nextOf (exec (.regRd 4#4) base)).map (fun t => t.host.replies) = some [.reg 8#32] := by decide

theorem test_pseudo_instructions :
    (HostLine.pushAsm.expand.map (fun t => t.desc)) = [0x01001A#24, 0x0100CF#24, 0x0100FC#24, 0x01001D#24]
      ∧ HostLine.clrStatus.expand = [⟨0x100104#24, 0x3F00#32, []⟩]
      ∧ (HostLine.wrCmd 2#32).expand.map (fun t => t.desc) = [0x110002#24] := by decide

/-- V-H-11: SYNC_RESTART leaves FAILED and keeps IO_ERR. -/
theorem test_restart_keeps_flags :
    (nextOf (exec .cmdSyncRestart
      ((base.setRegs { Regs.reset with sticky := 1#6 }).setSync ⟨.failed, [], [], 0#16⟩))).map
      (fun t => t.statusWord) = some 0x108#32 := by decide

/-- V-FP-15: VC_CLEAR. -/
theorem test_vc_clear :
    (nextOf (exec .cmdVcClear (base.setVc [(66#14, 11#24)]))).map (fun t => t.vc.last 66#14) = some none := by decide

/-- Pops take the oldest item, and a pop of an empty port waits. -/
theorem test_pop_po :
    (nextOf (exec .popPo (base.setPorts { Ports.reset with po := [.data [1#8], .endMark] }))).map
      (fun t => (t.ports.po, t.host.replies)) = some ([.endMark], [.po (.data [1#8])])
      ∧ (nextOf (exec .popPo base)).map (fun t => t.host.replies) = some [] := by decide

/-- V-H-14: a push to a full port waits, and stays the host's next transaction. -/
theorem test_push_full_waits :
    (nextOf (step { shallow with
      ports := { Ports.reset with ti := [.tc [], .tc []] }
      host := ⟨[encode (.pushTiTc [1#8])], []⟩
      schedule := [.host] })).map (fun t => (t.ports.ti.length, t.host.pending)) =
      some (2, [encode (.pushTiTc [1#8])]) := by decide

/-- An over-long item is refused (R321, D32). -/
theorem test_overlong_refused :
    refusalOf (exec (.pushTiTc (List.replicate 10 0#8)) base) = some .itemTooLong := by decide

/-- What a placed word does at the very next step after reset: SYNC.BYTE, and REG.RD of STATUS. -/
theorem test_word_runs_after_reset :
    (nextOf (step (State.reset.withFetchWord 24 0x0180AB))).map (fun t => t.sync.win) = some [0xAB#8]
      ∧ (nextOf (step (State.reset.withFetchWord 24 0x100004))).map (fun t => t.host.replies) = some [.reg 8#32] := by
  decide

/-! ### Witnesses: concrete states that meet the statements' hypotheses -/

theorem witness_DecodeOfEncode : (Instr.regWr 15#4 0x100#32).wf = true := by decide

theorem witness_DecodeKeepsEveryBit :
    decode ⟨0x0100FF#24, 0#32, []⟩ = .ok (.pushSiByte 0xFF#8) ∧ decode ⟨0x10010F#24, 3#32, []⟩ = .ok .cmdSoftReset
      ∧ decode ⟨0x070000#24, 0#32, [9#8]⟩ = .ok (.pushTiTc [9#8])
      ∧ decode ⟨0x10010E#24, 5#32, []⟩ = .ok (.regWr 14#4 5#32)
      ∧ decode ⟨0x110000#24, 5#32, [1#8]⟩ = .ok .cmdNop := ⟨rfl, rfl, rfl, rfl, rfl⟩

/-- Descriptors of no row, several of each kind R104 (a) lists: a reserved PORT; A = 1 on an output port, REG or CMD;
a reserved TAG; a TAG its port does not carry, for the host and for a unit; SUB[7:4] on REG, TAG on REG and CMD, a
reserved CMD code; SUB where R100 wants 0. -/
theorem witness_ReservedDescriptorsInvalid :
    [0x000000, 0x090000, 0x0F0000, 0x120000, 0xFF0000,
      0x028000, 0x08FFFF, 0x108000, 0x118003,
      0x010600, 0x087F00, 0x01FF00,
      0x010300, 0x030400, 0x080500, 0x070100, 0x070200, 0x020100, 0x060300, 0x018300, 0x078100,
      0x100010, 0x1000FF, 0x100110, 0x100200, 0x110100, 0x110004, 0x1100FF,
      0x010101, 0x030001, 0x020001, 0x0380FF].all (fun w => decodeTableWord 24 w == none) = true := by decide

/-- The ends of the byte and index fields are descriptors of rows. -/
theorem witness_ReservedDescriptorsInvalid_not :
    [0x010000, 0x0100FF, 0x018000, 0x0180FF, 0x100000, 0x10000F, 0x100100, 0x10010F, 0x110000, 0x110003].all
      (fun w => (decodeTableWord 24 w).isSome) = true := by decide

theorem witness_WriteToCmdDecodes :
    (0#32).toNat = 0 ∧ (1#32).toNat = 1 ∧ (2#32).toNat = 2 ∧ (3#32).toNat = 3 ∧ 4 ≤ (4#32).toNat := by decide

/-- A host with one transaction, on its turn. -/
def hostTurn (s : State) (i : Instr) : State :=
  { s with schedule := [.host], host := ⟨[encode i], []⟩ }

theorem witness_StepRunsHostTransaction :
    decode (encode (.pushSiByte 7#8)) = .ok (.pushSiByte 7#8)
      ∧ agentOf (.pushSiByte 7#8) = .host ∧ waits (.pushSiByte 7#8) (hostTurn base (.pushSiByte 7#8)) = false
      ∧ decode (encode .popBo) = .ok .popBo ∧ waits .popBo (hostTurn base .popBo) = true :=
  ⟨rfl, rfl, by decide, rfl, by decide⟩

theorem witness_StepRunsUnitItem :
    (∃ s : State, s.schedule = [.sync] ∧ s.ports.si = [.byte 0xFF#8])
      ∧ (∃ s : State, s.schedule = [.sync] ∧ s.ports.si = [.endMark])
      ∧ (∃ s : State, s.schedule = [.sync] ∧ s.ports.si = [.ioErr])
      ∧ (∃ s : State, s.schedule = [.pn] ∧ s.ports.pi = [.data []])
      ∧ (∃ s : State, s.schedule = [.fp] ∧ s.ports.fi = [.data []])
      ∧ (∃ s : State, s.schedule = [.tc] ∧ s.ports.ti = [.tc []]) :=
  ⟨⟨{ withSi base [.byte 0xFF#8] with schedule := [.sync] }, rfl, rfl⟩,
   ⟨{ withSi base [.endMark] with schedule := [.sync] }, rfl, rfl⟩,
   ⟨{ withSi base [.ioErr] with schedule := [.sync] }, rfl, rfl⟩,
   ⟨{ withPi base [.data []] with schedule := [.pn] }, rfl, rfl⟩,
   ⟨{ withFi base [.data []] with schedule := [.fp] }, rfl, rfl⟩,
   ⟨{ withTc base [] with schedule := [.tc] }, rfl, rfl⟩⟩

theorem witness_AnyAgentMayMove : base.schedule = [] ∧ fetch .sync base = none ∧ fetch .host base = none := by decide

theorem witness_NonTransactionsRefused :
    decode ⟨0x110004#24, 0#32, []⟩ = .error .commandCode ∧ decode ⟨0x038000#24, 0#32, []⟩ = .ok .pnData
      ∧ agentOf .pnData ≠ .host := ⟨rfl, rfl, by decide⟩

/-- One free slot and none, for each of the four input ports. -/
theorem witness_Pushes :
    1 ≤ (withSi shallow [.ioErr]).space [SiItem.ioErr] ∧ shallow.space [SiItem.ioErr, .ioErr] = 0
      ∧ 1 ≤ shallow.space [BlockItem.ioErr] ∧ shallow.space [BlockItem.ioErr, .ioErr] = 0
      ∧ 1 ≤ shallow.space [TiItem.tc []] ∧ shallow.space [TiItem.tc [], .tc []] = 0
      ∧ (List.replicate 1275 0#8).length ≤ shallow.params.blockMax := by
  refine ⟨by decide, by decide, by decide, by decide, by decide, by decide, ?_⟩
  simp only [List.length_replicate]; decide

theorem witness_OverlongItemsRefused :
    base.params.blockMax < (List.replicate 1276 0#8).length ∧ 9 < (List.replicate 10 0#8).length := by
  simp only [List.length_replicate]; decide

theorem witness_PopsTakeTheOldest :
    ∃ s : State, s.ports.bo = [.endMark] ∧ s.ports.po = [.ioErr] ∧ s.ports.fo = [.endMark]
      ∧ s.ports.tout = [.tcErr 0#4] :=
  ⟨base.setPorts { Ports.reset with bo := [.endMark], po := [.ioErr], fo := [.endMark], tout := [.tcErr 0#4] },
    rfl, rfl, rfl, rfl⟩

theorem witness_RegWrites :
    (5 ≤ (5#4).toNat ∧ (14#4).toNat ≤ 14) ∧ 13 ≤ (13#4).toNat ∧ (0x100#32).toNat / 256 ≠ 0 ∧ 4 ≤ (4#32).toNat % 256
      ∧ ¬ ((3#32).toNat / 256 ≠ 0 ∨ 4 ≤ (3#32).toNat % 256) := by decide

theorem witness_ResetMatchesSoftReset : exec .cmdSoftReset base = .next base := rfl

/-- SYNC in SEARCH with the window full, in COLLECT before the last byte, and in COLLECT at the last byte. -/
theorem witness_SyncByteStep :
    (withSi (syncOn base 1275) [.byte 0x1D#8]).SyncActive
      ∧ (withSi (syncOn base 1) [.byte 0x1D#8]).SyncActive
      ∧ ((withSi (syncOn base 0) [.byte 1#8]).setSync ⟨.collect, [], [], 1#16⟩).SyncActive
      ∧ 1 ≤ (withSi (syncOn base 1) [.byte 0x1D#8]).space (withSi (syncOn base 1) [.byte 0x1D#8]).syncOut
      ∧ ¬ (withSi (syncOn base 0) [.byte 1#8]).SyncActive := by
  simp only [State.SyncActive]; decide

theorem witness_SyncEndStep :
    ((withSi (syncOn base 4) [.endMark]).setSync ⟨.collect, [], [1#8], 4#16⟩).SyncActive
      ∧ (withSi (syncOn base 4) [.endMark]).SyncActive ∧ (withSi (syncOn base 4) [.ioErr]).SyncActive
      ∧ 1 ≤ (withSi (syncOn base 4) [.endMark]).space (withSi (syncOn base 4) [.endMark]).syncOut := by
  simp only [State.SyncActive]; decide

theorem witness_FinishedStreamWaitsForRestart :
    (base.setSync ⟨.done, [], [], 0#16⟩).sync.state = .done
      ∧ exec .cmdSyncRestart (base.setSync ⟨.failed, [], [], 0#16⟩) =
          .next (base.setSync ⟨.failed, [], [], 0#16⟩).syncRestart := ⟨rfl, rfl⟩

/-- The stream of V-SY-1 with End, before its first step. -/
def streamState : State :=
  { syncOn base 2 with
    schedule := List.replicate 7 .sync
    ports := { Ports.reset with
      si := [0x1A#8, 0xCF#8, 0xFC#8, 0x1D#8, 0xAA#8, 0xBB#8].map SiItem.byte ++ [.endMark] } }

theorem witness_StreamYieldsItsBlocks :
    streamState.schedule = List.replicate (6 + 1) .sync ∧ streamState.regs.ctrl.getLsbD 0 = true
      ∧ streamState.sync = ⟨.search, [], [], 0#16⟩ ∧ streamState.bsize.toNat = 2
      ∧ streamState.bsize.toNat ≤ streamState.params.blockMax
      ∧ blocks [0x1A#8, 0xCF#8, 0xFC#8, 0x1D#8, 0xAA#8, 0xBB#8] 2 = [[0xAA#8, 0xBB#8]]
      ∧ 1 + 1 ≤ streamState.space streamState.syncOut := by decide

theorem witness_EveryByteIsAccountedFor :
    guardSyncByte 0x1A#8 (withSi (syncOn base 1) [.byte 0x1A#8]) = true
      ∧ (withSi (syncOn base 1) [.byte 0x1A#8]).sync.buf = [] := by decide

theorem witness_PnSteps :
    (withPi base [.data [1#8]]).ports.pi = [.data [1#8]]
      ∧ 1 ≤ (withPi base [.data [1#8]]).space (withPi base [.data [1#8]]).pnOut
      ∧ (withPi base [.endMark]).ports.pi = [.endMark] ∧ (withPi base [.ioErr]).ports.pi = [.ioErr] := by decide

/-- FP.DATA's two clauses: MO = 5 and MO = 6, and a frame one byte too short and one just long enough. -/
theorem witness_FpDataStep :
    2 ≤ (withFi base [.data []]).space (withFi base [.data []]).ports.fo
      ∧ ((base.setRegs { Regs.reset with mpduOffset := 5#32 }).mo.toNat < 6)
      ∧ 6 ≤ base.mo.toNat
      ∧ (List.replicate 7 0#8).length < base.mo.toNat + 2 + base.tl.toNat
      ∧ base.mo.toNat + 2 + base.tl.toNat ≤ (List.replicate 8 0#8).length
      ∧ VcTable.last [(66#14, 11#24)] 66#14 = some 11#24 := by decide

theorem witness_FpPassesEndAndIoErr :
    (withFi base [.endMark]).ports.fi = [.endMark] ∧ (withFi base [.ioErr]).ports.fi = [.ioErr]
      ∧ 1 ≤ (withFi base [.endMark]).space (withFi base [.endMark]).ports.fo := by decide

theorem witness_FoItemsStayConsistent :
    base.FoConsistent ∧ step { base with schedule := [.fp] } = .next base := by
  refine ⟨?_, rfl⟩
  intro x hx
  simp [base, State.reset, Ports.reset] at hx

theorem witness_VcEntryChangesOnlyByItsKey :
    (nextOf (exec .fpData (withFi base [.data [0x40#8, 0x42#8, 0#8, 0#8, 5#8, 0#8, 0#8, 0#8]]))).map
      (fun t => (t.vc.last 66#14, base.vc.last 66#14)) = some (some 5#24, none) := by decide

theorem witness_TcDecodeStep :
    (withTc base (List.replicate 8 0#8)).ports.ti = [.tc (List.replicate 8 0#8)]
      ∧ (withTc base (List.replicate 9 0#8)).ports.ti = [.tc (List.replicate 9 0#8)]
      ∧ 1 ≤ (withTc base []).space (withTc base []).ports.tout ∧ base.ports.ti = [] := by decide

/-- The reset state of any parameters has the invariant's parts. -/
theorem base_inv : base.Inv := by
  constructor
  · constructor <;> decide
  · constructor <;> simp [base, State.reset, SyncUnit.reset, asm]
  · constructor <;> simp [base, State.reset, Ports.reset]
  · decide

theorem witness_StepKeepsTheInvariant : base.Inv ∧ step { base with schedule := [.sync] } = .next base :=
  ⟨base_inv, rfl⟩

theorem witness_GoodHostProgramsNeverStop :
    (hostTurn base (.regRd 4#4)).HostProgramOk := by
  intro t ht
  simp only [hostTurn, List.mem_singleton] at ht
  subst ht
  exact ⟨.regRd 4#4, rfl, rfl, rfl⟩

theorem witness_OnlyOverlongPushesStop :
    admits (.pushTiTc (List.replicate 9 0#8)) base = true ∧ admits (.pushTiTc (List.replicate 10 0#8)) base = false := by
  decide

theorem witness_StickyBitsAreSticky :
    (nextOf (exec (.regWr 4#4 0x100#32) (base.setRegs { Regs.reset with sticky := 1#6 }))).map
      (fun t => t.regs.sticky.getLsbD 0) = some false := by decide

/-- Each of the six bits goes from 0 to 1 somewhere. -/
theorem witness_StickyBitsHaveTheirSetters :
    [exec .syncIoErr (withSi (syncOn base 4) [.ioErr]),
      exec .syncEnd ((withSi (syncOn base 4) [.endMark]).setSync ⟨.collect, [], [], 4#16⟩),
      exec .fpData (withFi base [.data []]),
      exec .fpData (withFi (base.setVc [(66#14, 11#24)]) [.data [0x40#8, 0x42#8, 0#8, 0#8, 14#8, 0#8, 0#8, 0#8]]),
      exec .tcDecode (withTc base []),
      exec (.regWr 15#4 4#32) base].map (fun o => (nextOf o).map (fun t => t.regs.sticky)) =
    [some 1#6, some 2#6, some 4#6, some 8#6, some 16#6, some 32#6] := by decide

theorem witness_UnitSteps :
    isUnit .pnEnd = true ∧ guard .pnEnd (withPi base [.endMark]) = true
      ∧ exec .pnEnd (withPi base [.endMark]) = .next ((withPi base [.endMark]).popPi.pushPnOut .endMark) :=
  ⟨rfl, rfl, rfl⟩

theorem witness_PortsAreFifo :
    exec .cmdNop base = .next base ∧ Instr.cmdNop ≠ .cmdSoftReset ∧ Instr.cmdNop ≠ .regWr 15#4 3#32 :=
  ⟨rfl, by decide, by decide⟩

theorem witness_IdleMeansNoUnitEnabled : (base.readReg 4#4).getLsbD 3 = true := by decide

theorem witness_CfgErrStallsSync : ((syncOn base 1276).readReg 4#4).getLsbD 2 = true := by decide

/-- BSIZE 1 and BSIZE = BLOCK_MAX clear it, BSIZE 0 does not. -/
theorem witness_CfgErrCleared :
    [1#32, BitVec.ofNat 32 (syncOn base 1276).params.blockMax, 0#32].map (fun v =>
      (nextOf (exec (.regWr 1#4 v) (syncOn base 1276))).map (fun t => (t.readReg 4#4).getLsbD 2))
      = [some false, some false, some true] := by decide

/-- SYNC's End into PI and PN's block to PO are enabled together. -/
theorem witness_UnitStepsCommute :
    guard .syncEnd ((syncOn base 1).setPorts { Ports.reset with si := [.endMark], pi := [.data [1#8]] }) = true
      ∧ guard .pnData ((syncOn base 1).setPorts { Ports.reset with si := [.endMark], pi := [.data [1#8]] }) = true
      ∧ agentOf .syncEnd ≠ agentOf .pnData := by decide

end Sys2Proof.Tests
end

section
/-! PROOFS, the layer below the statements: what an operation does when it is enabled (`effect`), tied to `exec` by
one equation, and one inversion lemma per shared function, so that no later proof walks through `exec`, `writeReg`
or `command` again. -/

namespace Sys2Proof.Machine

/-! ### One operation -/

/-- The host receives the item that a POP takes, if there is one (R333 to R336). -/
def State.receive (s : State) (r : Option Reply) : State :=
  s.setHost { s.host with replies := s.host.replies ++ r.toList }

/-- What each operation does to the state where it is enabled (R17: its whole body). -/
def effect (i : Instr) (s : State) : State :=
  match i with
  | .pushSiByte b => s.pushSi (.byte b)
  | .pushSiEnd => s.pushSi .endMark
  | .pushSiIoErr => s.pushSi .ioErr
  | .pushPiData B => s.pushPi (.data B)
  | .pushPiEnd => s.pushPi .endMark
  | .pushPiIoErr => s.pushPi .ioErr
  | .pushFiData B => s.pushFi (.data B)
  | .pushFiEnd => s.pushFi .endMark
  | .pushFiIoErr => s.pushFi .ioErr
  | .pushTiTc B => s.pushTi (.tc B)
  | .popBo => s.popBo.receive (s.ports.bo.head?.map .bo)
  | .popPo => s.popPo.receive (s.ports.po.head?.map .po)
  | .popFo => s.popFo.receive (s.ports.fo.head?.map .fo)
  | .popTo => s.popTo.receive (s.ports.tout.head?.map .tout)
  | .regRd k => s.reply (.reg (s.readReg k))
  | .regWr k v => s.writeReg k v
  | .cmdNop => s
  | .cmdSyncRestart => s.syncRestart
  | .cmdVcClear => s.vcClear
  | .cmdSoftReset => s.resetBlock
  | .syncByte b => s.syncByteBody b
  | .syncEnd => s.syncEndBody
  | .syncIoErr => s.syncIoErrBody
  | .pnData => s.pnDataBody
  | .pnEnd => s.popPi.pushPnOut .endMark
  | .pnIoErr => s.popPi.pushPnOut .ioErr
  | .fpData => s.fpDataBody
  | .fpEnd => s.popFi.pushFo .endMark
  | .fpIoErr => s.popFi.pushFo .ioErr
  | .tcDecode => s.tcDecodeBody

theorem execPopBo_eq (s : State) : execPopBo s = whenEnabled (guard .popBo s) (effect .popBo s) s := by
  cases h : s.ports.bo <;> simp [execPopBo, guard, effect, State.receive, State.reply, h]

theorem execPopPo_eq (s : State) : execPopPo s = whenEnabled (guard .popPo s) (effect .popPo s) s := by
  cases h : s.ports.po <;> simp [execPopPo, guard, effect, State.receive, State.reply, h]

theorem execPopFo_eq (s : State) : execPopFo s = whenEnabled (guard .popFo s) (effect .popFo s) s := by
  cases h : s.ports.fo <;> simp [execPopFo, guard, effect, State.receive, State.reply, h]

theorem execPopTo_eq (s : State) : execPopTo s = whenEnabled (guard .popTo s) (effect .popTo s) s := by
  cases h : s.ports.tout <;> simp [execPopTo, guard, effect, State.receive, State.reply, h]

/-- Every operation whose item its port can carry is a guarded step on its effect (R17, R321). -/
theorem exec_of_admits (i : Instr) (s : State) (h : admits i s = true) :
    exec i s = whenEnabled (guard i s) (effect i s) s := by
  cases i with
  | popBo => exact execPopBo_eq s
  | popPo => exact execPopPo_eq s
  | popFo => exact execPopFo_eq s
  | popTo => exact execPopTo_eq s
  | pushPiData B => exact if_neg (by simpa [admits] using h)
  | pushFiData B => exact if_neg (by simpa [admits] using h)
  | pushTiTc B => exact if_neg (by simpa [admits] using h)
  | _ => rfl

/-- An item that its port cannot carry is refused (R321). -/
theorem exec_of_not_admits (i : Instr) (s : State) (h : admits i s = false) :
    exec i s = .refused .itemTooLong := by
  cases i with
  | pushPiData B => exact if_pos (by simpa [admits] using h)
  | pushFiData B => exact if_pos (by simpa [admits] using h)
  | pushTiTc B => exact if_pos (by simpa [admits] using h)
  | _ => cases h

/-- An enabled operation has its effect. -/
theorem exec_of_guard {i : Instr} {s : State} (ha : admits i s = true) (hg : guard i s = true) :
    exec i s = .next (effect i s) := by
  rw [exec_of_admits i s ha, hg, whenEnabled_true]

/-- An operation whose guard does not hold waits. -/
theorem exec_of_not_guard {i : Instr} {s : State} (ha : admits i s = true) (hg : guard i s = false) :
    exec i s = .next s := by
  rw [exec_of_admits i s ha, hg, whenEnabled_false]

/-- What an operation that goes on can do: wait, or its effect with its guard and its item's bound met. -/
theorem exec_eq_next {i : Instr} {s t : State} (h : exec i s = .next t) :
    t = s ∨ (admits i s = true ∧ guard i s = true ∧ t = effect i s) := by
  cases ha : admits i s with
  | false => rw [exec_of_not_admits i s ha] at h; cases h
  | true =>
    rw [exec_of_admits i s ha] at h
    rcases whenEnabled_cases h with ⟨hg, ht⟩ | ⟨-, ht⟩
    · exact .inr ⟨rfl, hg, ht⟩
    · exact .inl ht

/-- A unit operation carries no item of the host's: there is nothing to refuse. -/
theorem admits_of_agentOf_ne_host {i : Instr} (h : agentOf i ≠ .host) (s : State) : admits i s = true := by
  cases i with
  | pushPiData B => exact absurd rfl h
  | pushFiData B => exact absurd rfl h
  | pushTiTc B => exact absurd rfl h
  | _ => rfl

/-! ### Register writes and commands -/

/-- A write to CMD is one of the five cases of R339 to R343. -/
theorem command_cases (s : State) (v : Word) :
    (v = 0#32 ∧ s.command v = s) ∨ (v = 1#32 ∧ s.command v = s.syncRestart)
      ∨ (v = 2#32 ∧ s.command v = s.vcClear) ∨ (v = 3#32 ∧ s.command v = s.resetBlock)
      ∨ (4 ≤ v.toNat ∧ s.command v = s.raiseEvent .cmdErr) := by
  unfold State.command
  split_ifs with h0 h1 h2 h3
  · exact .inl ⟨h0, rfl⟩
  · exact .inr (.inl ⟨h1, rfl⟩)
  · exact .inr (.inr (.inl ⟨h2, rfl⟩))
  · exact .inr (.inr (.inr (.inl ⟨h3, rfl⟩)))
  · refine .inr (.inr (.inr (.inr ⟨?_, rfl⟩)))
    simp only [← BitVec.toNat_inj, BitVec.toNat_ofNat] at h0 h1 h2 h3
    omega

/-- `r'` is `r` but for the four RW registers (R31 to R34), whose reserved bits stay 0. -/
structure Regs.Configures (r r' : Regs) : Prop where
  rest : { r' with ctrl := r.ctrl, blockSize := r.blockSize, mpduOffset := r.mpduOffset,
                   trailerLen := r.trailerLen } = r
  inv : r.Inv → r'.Inv

theorem Regs.Configures.sticky {r r' : Regs} (h : r.Configures r') : r'.sticky = r.sticky :=
  (congrArg Regs.sticky h.rest :)

/-- A write of a register is a write of an RW register or an ignored one, a W1C write of STATUS, or a command
(R338). -/
theorem writeReg_cases (s : State) (k : BitVec 4) (v : Word) :
    (∃ r, s.writeReg k v = s.setRegs r ∧ s.regs.Configures r)
      ∨ (k = 4#4 ∧ s.writeReg k v = s.clearSticky v) ∨ (k = 15#4 ∧ s.writeReg k v = s.command v) := by
  have narrow (n : Nat) (hn : n ≤ 16) : ((v.extractLsb' 0 n).setWidth 32).toNat < 2 ^ n := by
    simp; omega
  have index (n : Nat) (h : k.toNat = n) : k = BitVec.ofNat 4 n := by simp [← h]
  unfold State.writeReg
  split
  case h_1 => exact .inl ⟨_, rfl, rfl, fun h => { h with ctrl := narrow 3 (by decide) }⟩
  case h_2 => exact .inl ⟨_, rfl, rfl, fun h => { h with blockSize := narrow 16 (by decide) }⟩
  case h_3 => exact .inl ⟨_, rfl, rfl, fun h => { h with mpduOffset := narrow 16 (by decide) }⟩
  case h_4 => exact .inl ⟨_, rfl, rfl, fun h => { h with trailerLen := narrow 16 (by decide) }⟩
  case h_5 h => exact .inr (.inl ⟨index 4 h, rfl⟩)
  case h_6 h => exact .inr (.inr ⟨index 15 h, rfl⟩)
  case h_7 => exact .inl ⟨s.regs, rfl, rfl, id⟩

end Sys2Proof.Machine
end

section
/-! PROOFS, the bodies of the unit operations: one lemma per body that says what it can do under its guard, and what
it leaves alone. -/

namespace Sys2Proof.Machine

variable (s : State)

/-- The RW registers of the configuration (R31 to R34). -/
def Regs.config (r : Regs) : Word × Word × Word × Word := (r.ctrl, r.blockSize, r.mpduOffset, r.trailerLen)

/-! ### SYNC (R152 to R154) -/

/-- The window after the byte `b` in SEARCH (R152): of five bytes the oldest is skipped. -/
def State.nextWin (b : Byte) : List Byte :=
  if s.sync.win.length = 4 then s.sync.win.tail ++ [b] else s.sync.win ++ [b]

/-- The bytes skipped by the byte in SEARCH (R152): 1 where the window was full. -/
def State.skipped : Word := if s.sync.win.length = 4 then 1#32 else 0#32

/-- SYNC's push appends to its output port only (R151). -/
theorem pushSyncOut_ports (x : BlockItem) : (s.pushSyncOut x).ports = s.withSyncOut s.ports (s.syncOut ++ [x]) := by
  cases h : s.chainPn with
  | true => rw [pushSyncOut_chained s h, State.syncOut, if_pos h]; exact (if_pos h).symm
  | false =>
    have hn : ¬ s.chainPn = true := by simp [h]
    rw [pushSyncOut_unchained s h, State.syncOut, if_neg hn]; exact (if_neg hn).symm

/-- The byte `b` in SEARCH either completes the marker or only moves the window (R152). -/
theorem searchByte_eq (b : Byte) :
    s.searchByte b =
      if s.nextWin b = asm then
        (s.setSync ⟨.collect, [], [], s.bsize⟩).setRegs
          { s.regs with skipCount := s.regs.skipCount + s.skipped, asmCount := s.regs.asmCount + 1#32 }
      else
        (s.setSync { s.sync with win := s.nextWin b }).setRegs
          { s.regs with skipCount := s.regs.skipCount + s.skipped } := by
  by_cases h : s.sync.win.length = 4
  · have hd : (s.sync.win ++ [b]).drop 1 = s.sync.win.tail ++ [b] := by
      cases hw : s.sync.win <;> simp_all
    simp [State.searchByte, State.nextWin, State.skipped, h, hd, State.bsize]
    rfl
  · simp [State.searchByte, State.nextWin, State.skipped, h, State.bsize]
    rfl

/-- The byte `b` in COLLECT completes the block, which is emitted, or joins the buffer (R152). -/
theorem collectByte_eq (b : Byte) :
    s.collectByte b =
      if s.sync.buf.length + 1 = s.sync.curBsize.toNat then
        ((s.pushSyncOut (.data (s.sync.buf ++ [b]))).setSync { s.sync with buf := [], state := .search }).bumpBlock
      else s.setSync { s.sync with buf := s.sync.buf ++ [b] } := by
  simp [State.collectByte]

theorem syncByteBody_search (b : Byte) (h : s.sync.state = .search) :
    s.syncByteBody b = s.popSi.bumpStreamPos.searchByte b := if_pos h

theorem syncByteBody_collect (b : Byte) (h : s.sync.state = .collect) :
    s.syncByteBody b = s.popSi.bumpStreamPos.collectByte b := if_neg (by simp [h])

/-- SYNC steps in SEARCH, there with a legal BSIZE, or in COLLECT (R150). -/
theorem syncActive_cases (h : s.syncActive = true) :
    (s.sync.state = .search ∧ s.bsizeLegal = true) ∨ s.sync.state = .collect := by
  cases hs : s.sync.state <;> simp_all [State.syncActive, SyncState.active]

theorem syncActive_of_guardSyncByte {b : Byte} (h : guardSyncByte b s = true) : s.syncActive = true := by
  simp only [guardSyncByte, Bool.and_eq_true] at h
  exact h.1.1

/-- The byte that completes a block finds room for it (R152). -/
theorem room_of_guardSyncByte {b : Byte} (h : guardSyncByte b s = true) (hc : s.sync.state = .collect)
    (hb : s.sync.buf.length + 1 = s.sync.curBsize.toNat) : s.room s.syncOut 1 = true := by
  simp_all [guardSyncByte, State.completesBlock]

@[simp] theorem searchByte_vc (b : Byte) : (s.searchByte b).vc = s.vc := by
  rw [searchByte_eq]; split <;> rfl
@[simp] theorem searchByte_params (b : Byte) : (s.searchByte b).params = s.params := by
  rw [searchByte_eq]; split <;> rfl
@[simp] theorem searchByte_ports (b : Byte) : (s.searchByte b).ports = s.ports := by
  rw [searchByte_eq]; split <;> rfl
@[simp] theorem searchByte_sticky (b : Byte) : (s.searchByte b).regs.sticky = s.regs.sticky := by
  rw [searchByte_eq]; split <;> rfl
@[simp] theorem searchByte_config (b : Byte) : (s.searchByte b).regs.config = s.regs.config := by
  rw [searchByte_eq]; split <;> rfl

theorem searchByte_streamPos (b : Byte) : (s.searchByte b).regs.streamPos = s.regs.streamPos := by
  rw [searchByte_eq]; split <;> rfl

@[simp] theorem collectByte_vc (b : Byte) : (s.collectByte b).vc = s.vc := by
  rw [collectByte_eq]; split <;> simp
@[simp] theorem collectByte_params (b : Byte) : (s.collectByte b).params = s.params := by
  rw [collectByte_eq]; split <;> simp
@[simp] theorem collectByte_sticky (b : Byte) : (s.collectByte b).regs.sticky = s.regs.sticky := by
  rw [collectByte_eq]; split <;> simp
@[simp] theorem collectByte_config (b : Byte) : (s.collectByte b).regs.config = s.regs.config := by
  rw [collectByte_eq]; split <;> simp [Regs.config]

theorem collectByte_streamPos (b : Byte) : (s.collectByte b).regs.streamPos = s.regs.streamPos := by
  rw [collectByte_eq]; split <;> simp

@[simp] theorem syncByteBody_vc (b : Byte) : (s.syncByteBody b).vc = s.vc := by
  simp only [State.syncByteBody]; split <;> simp
@[simp] theorem syncByteBody_params (b : Byte) : (s.syncByteBody b).params = s.params := by
  simp only [State.syncByteBody]; split <;> simp
@[simp] theorem syncByteBody_sticky (b : Byte) : (s.syncByteBody b).regs.sticky = s.regs.sticky := by
  simp only [State.syncByteBody]; split <;> simp
@[simp] theorem syncByteBody_config (b : Byte) : (s.syncByteBody b).regs.config = s.regs.config := by
  simp only [State.syncByteBody]; split
  · exact searchByte_config _ b
  · exact collectByte_config _ b

/-- SYNC.END takes the item, raises TRUNC where a block was in collection, and passes `End` on (R153). -/
theorem syncEndBody_eq :
    s.syncEndBody =
      ((s.popSi.setRegs (if s.sync.state = .collect then s.popSi.raiseEvent .trunc else s.popSi).regs).setSync
        { s.sync with buf := [], win := [], state := .done }).pushSyncOut .endMark := by
  simp only [State.syncEndBody]; split <;> rfl

@[simp] theorem syncEndBody_vc : s.syncEndBody.vc = s.vc := by simp [syncEndBody_eq]
@[simp] theorem syncEndBody_params : s.syncEndBody.params = s.params := by simp [syncEndBody_eq]
@[simp] theorem syncEndBody_sync : s.syncEndBody.sync = { s.sync with buf := [], win := [], state := .done } := by
  simp [syncEndBody_eq]
@[simp] theorem syncEndBody_regs :
    s.syncEndBody.regs = if s.sync.state = .collect then (s.raiseEvent .trunc).regs else s.regs := by
  simp only [syncEndBody_eq]; split <;> simp

/-- SYNC.END takes the item and passes it on. -/
theorem syncEndBody_ports : s.syncEndBody.ports = (s.popSi.pushSyncOut .endMark).ports := by
  rw [syncEndBody_eq, pushSyncOut_ports, pushSyncOut_ports]
  split <;> rfl

@[simp] theorem syncIoErrBody_vc : s.syncIoErrBody.vc = s.vc := by simp [State.syncIoErrBody]
@[simp] theorem syncIoErrBody_params : s.syncIoErrBody.params = s.params := by simp [State.syncIoErrBody]
@[simp] theorem syncIoErrBody_sync :
    s.syncIoErrBody.sync = { s.sync with buf := [], win := [], state := .failed } := by simp [State.syncIoErrBody]
@[simp] theorem syncIoErrBody_regs : s.syncIoErrBody.regs = (s.raiseEvent .ioErr).regs := by
  simp [State.syncIoErrBody]

/-- SYNC.IOERR takes the item and passes it on. -/
theorem syncIoErrBody_ports : s.syncIoErrBody.ports = (s.popSi.pushSyncOut .ioErr).ports := by
  rw [State.syncIoErrBody, pushSyncOut_ports, pushSyncOut_ports]
  rfl

/-! ### PN (R203) -/

/-- PN keeps the length of a block (R206). -/
@[simp] theorem length_pnFrom (l : BitVec 8) (B : List Byte) : (pnFrom l B).length = B.length := by
  induction B generalizing l with
  | nil => rfl
  | cons b rest ih => simp [pnFrom, ih]

@[simp] theorem length_pn (B : List Byte) : (pn B).length = B.length := length_pnFrom _ B

/-- The head item is a block. -/
theorem exists_cons_of_any_isData {q : List BlockItem} (h : q.head?.any BlockItem.isData = true) :
    ∃ B rest, q = .data B :: rest := by
  rcases q with _ | ⟨_ | _ | _, rest⟩
  · cases h
  · exact ⟨_, _, rfl⟩
  · cases h
  · cases h

@[simp] theorem pnDataBody_regs : s.pnDataBody.regs = s.regs := by
  simp only [State.pnDataBody]; split <;> simp
@[simp] theorem pnDataBody_sync : s.pnDataBody.sync = s.sync := by
  simp only [State.pnDataBody]; split <;> simp
@[simp] theorem pnDataBody_vc : s.pnDataBody.vc = s.vc := by
  simp only [State.pnDataBody]; split <;> simp
@[simp] theorem pnDataBody_params : s.pnDataBody.params = s.params := by
  simp only [State.pnDataBody]; split <;> simp

/-- PN.DATA under its guard: a block at the head of PI, room for its image (R203). -/
theorem pnDataBody_of_guard (h : guardPnData s = true) :
    ∃ B q, s.ports.pi = .data B :: q ∧ s.room s.pnOut 1 = true
      ∧ s.pnDataBody = s.popPi.pushPnOut (.data (pn B)) := by
  obtain ⟨hd, hr⟩ := Bool.and_eq_true_iff.mp h
  obtain ⟨B, q, hq⟩ := exists_cons_of_any_isData hd
  exact ⟨B, q, hq, hr, by simp [State.pnDataBody, hq]⟩

/-! ### FP (R231, R232) -/

/-- FP.DATA under its guard: a frame at the head of FI, room for two items (R232). -/
theorem fpDataBody_of_guard (h : guardFpData s = true) :
    ∃ B q, s.ports.fi = .data B :: q ∧ s.room s.ports.fo 2 = true ∧ s.fpDataBody = s.popFi.parseFrame B := by
  obtain ⟨hd, hr⟩ := Bool.and_eq_true_iff.mp h
  obtain ⟨B, q, hq⟩ := exists_cons_of_any_isData hd
  exact ⟨B, q, hq, hr, by simp [State.fpDataBody, hq]⟩

/-- A gap report is nothing or a `Gap` item with its flag and counter (R232). -/
theorem reportGap_cases (B : List Byte) (last : Option (BitVec 24)) :
    s.reportGap B last = s
      ∨ ∃ l, last = some l ∧ isGap (some l) (frameCounter B) = true
          ∧ s.reportGap B last = ((s.pushFo (.gap (gapRecord B l))).raiseEvent .gap).bumpGap := by
  cases last with
  | none => exact .inl rfl
  | some l =>
    by_cases hg : isGap (some l) (frameCounter B) = true
    · exact .inr ⟨l, rfl, hg, if_pos hg⟩
    · exact .inl (if_neg hg)

/-- A frame is malformed, or is parsed with MO and TL as they stand (R231, R232). -/
theorem parseFrame_cases (B : List Byte) :
    (∃ r, s.parseFrame B = s.malformedFrame r B.length) ∨ s.parseFrame B = s.goodFrame B s.mo.toNat s.tl.toNat := by
  cases h : frameFailure B s.mo.toNat s.tl.toNat with
  | none => exact .inr (by simp [State.parseFrame, h])
  | some r => exact .inl ⟨r, by simp [State.parseFrame, h]⟩

@[simp] theorem reportGap_vc (B : List Byte) (last : Option (BitVec 24)) : (s.reportGap B last).vc = s.vc := by
  rcases reportGap_cases s B last with h | ⟨l, -, -, h⟩ <;> simp [h]
@[simp] theorem reportGap_sync (B : List Byte) (last : Option (BitVec 24)) : (s.reportGap B last).sync = s.sync := by
  rcases reportGap_cases s B last with h | ⟨l, -, -, h⟩ <;> simp [h]
@[simp] theorem reportGap_params (B : List Byte) (last : Option (BitVec 24)) :
    (s.reportGap B last).params = s.params := by
  rcases reportGap_cases s B last with h | ⟨l, -, -, h⟩ <;> simp [h]
@[simp] theorem reportGap_config (B : List Byte) (last : Option (BitVec 24)) :
    (s.reportGap B last).regs.config = s.regs.config := by
  rcases reportGap_cases s B last with h | ⟨l, -, -, h⟩ <;> simp [h, Regs.config]

/-- A good frame records its counter under its key (R232). -/
@[simp] theorem goodFrame_vc (B : List Byte) (mo tl : Nat) :
    (s.goodFrame B mo tl).vc = s.vc.record (frameKey B) (frameCounter B) := by
  simp [State.goodFrame]

/-- A frame changes the VC table at most by recording the counter of its own key (R45, R232). -/
theorem parseFrame_vc (B : List Byte) :
    (s.parseFrame B).vc = s.vc ∨ (s.parseFrame B).vc = s.vc.record (frameKey B) (frameCounter B) := by
  rcases parseFrame_cases s B with ⟨r, h⟩ | h
  · exact .inl (by rw [h]; rfl)
  · exact .inr (by rw [h, goodFrame_vc])

@[simp] theorem parseFrame_sync (B : List Byte) : (s.parseFrame B).sync = s.sync := by
  rcases parseFrame_cases s B with ⟨r, h⟩ | h <;> rw [h]
  · rfl
  · exact reportGap_sync s B _
@[simp] theorem parseFrame_params (B : List Byte) : (s.parseFrame B).params = s.params := by
  rcases parseFrame_cases s B with ⟨r, h⟩ | h <;> rw [h]
  · rfl
  · exact reportGap_params s B _
@[simp] theorem parseFrame_config (B : List Byte) : (s.parseFrame B).regs.config = s.regs.config := by
  rcases parseFrame_cases s B with ⟨r, h⟩ | h <;> rw [h]
  · rfl
  · exact reportGap_config s B _

@[simp] theorem fpDataBody_sync : s.fpDataBody.sync = s.sync := by
  simp only [State.fpDataBody]; split <;> simp
@[simp] theorem fpDataBody_params : s.fpDataBody.params = s.params := by
  simp only [State.fpDataBody]; split <;> simp
@[simp] theorem fpDataBody_config : s.fpDataBody.regs.config = s.regs.config := by
  simp only [State.fpDataBody]; split <;> simp

/-- A frame's only effect on the ports is to append at most two items to FO (R232). -/
theorem parseFrame_ports (B : List Byte) :
    ∃ xs : List FoItem, xs.length ≤ 2 ∧ (s.parseFrame B).ports = { s.ports with fo := s.ports.fo ++ xs } := by
  rcases parseFrame_cases s B with ⟨r, h⟩ | h
  · rw [h]; exact ⟨[_], by simp, rfl⟩
  · rw [h]
    rcases reportGap_cases s B (s.vc.last (frameKey B)) with hg | ⟨l, -, -, hg⟩
    · exact ⟨[_], by simp, by simp [State.goodFrame, hg]; rfl⟩
    · exact ⟨[_, _], by simp, by simp [State.goodFrame, hg]; exact ⟨rfl, rfl⟩⟩

/-- A frame raises MALFORMED, or GAP, or no event (R231, R232). -/
theorem parseFrame_sticky (B : List Byte) :
    (s.parseFrame B).regs.sticky = s.regs.sticky
      ∨ ∃ e : Event, (e = .malformed ∨ e = .gap) ∧ (s.parseFrame B).regs.sticky = s.regs.sticky ||| e.bit := by
  rcases parseFrame_cases s B with ⟨r, h⟩ | h
  · exact .inr ⟨.malformed, .inl rfl, by rw [h]; rfl⟩
  · rw [h]
    rcases reportGap_cases s B (s.vc.last (frameKey B)) with hg | ⟨l, -, -, hg⟩
    · exact .inl (by simp [State.goodFrame, hg])
    · exact .inr ⟨.gap, .inr rfl, by simp [State.goodFrame, hg]⟩

/-! ### TC (R280) -/

/-- TC.DECODE under its guard: a timecode at the head of TI, room for its record (R280). -/
theorem tcDecodeBody_of_guard (h : guardTcDecode s = true) :
    ∃ B q, s.ports.ti = .tc B :: q ∧ s.room s.ports.tout 1 = true ∧ s.tcDecodeBody = s.popTi.convertTime B := by
  obtain ⟨hd, hr⟩ := Bool.and_eq_true_iff.mp h
  cases hq : s.ports.ti with
  | nil => simp [hq] at hd
  | cons x q => exact ⟨x.1, q, rfl, hr, by simp [State.tcDecodeBody, hq]⟩

/-- A timecode is an event or a `Time` record (R280). -/
theorem convertTime_cases (B : List Byte) :
    s.convertTime B = (s.pushTo (.tcErr (BitVec.ofNat 4 B.length))).raiseEvent .tcErr
      ∨ s.convertTime B = (s.pushTo (.time (timeRecord B))).bumpTc := by
  by_cases h : B.length < tcLen
  · exact .inl (if_pos h)
  · exact .inr (if_neg h)

@[simp] theorem convertTime_vc (B : List Byte) : (s.convertTime B).vc = s.vc := by
  rcases convertTime_cases s B with h | h <;> rw [h] <;> rfl
@[simp] theorem convertTime_sync (B : List Byte) : (s.convertTime B).sync = s.sync := by
  rcases convertTime_cases s B with h | h <;> rw [h] <;> rfl
@[simp] theorem convertTime_params (B : List Byte) : (s.convertTime B).params = s.params := by
  rcases convertTime_cases s B with h | h <;> rw [h] <;> rfl
@[simp] theorem convertTime_config (B : List Byte) : (s.convertTime B).regs.config = s.regs.config := by
  rcases convertTime_cases s B with h | h <;> rw [h] <;> rfl

@[simp] theorem tcDecodeBody_vc : s.tcDecodeBody.vc = s.vc := by
  simp only [State.tcDecodeBody]; split <;> simp
@[simp] theorem tcDecodeBody_sync : s.tcDecodeBody.sync = s.sync := by
  simp only [State.tcDecodeBody]; split <;> simp
@[simp] theorem tcDecodeBody_params : s.tcDecodeBody.params = s.params := by
  simp only [State.tcDecodeBody]; split <;> simp
@[simp] theorem tcDecodeBody_config : s.tcDecodeBody.regs.config = s.regs.config := by
  simp only [State.tcDecodeBody]; split <;> simp

/-- A timecode's only effect on the ports is one item appended to TO (R280). -/
theorem convertTime_ports (B : List Byte) :
    ∃ x, (s.convertTime B).ports = { s.ports with tout := s.ports.tout ++ [x] } := by
  rcases convertTime_cases s B with h | h <;> rw [h] <;> exact ⟨_, rfl⟩

/-- A timecode raises TC_ERR or no event (R280). -/
theorem convertTime_sticky (B : List Byte) :
    (s.convertTime B).regs.sticky = s.regs.sticky
      ∨ (s.convertTime B).regs.sticky = s.regs.sticky ||| Event.tcErr.bit := by
  rcases convertTime_cases s B with h | h
  · exact .inr (by rw [h]; rfl)
  · exact .inl (by rw [h]; rfl)

end Sys2Proof.Machine
end

section
/-! PROOFS, the invariant of the block (`State.Inv`): each of its four parts is kept by every effect, and a step adds
to an effect only what is outside the block. -/

namespace Sys2Proof.Machine

/-! ### What no operation changes -/

/-- The build parameters are no operation's to change (R10). -/
@[simp] theorem effect_params (i : Instr) (s : State) : (effect i s).params = s.params := by
  cases i with
  | regWr k v =>
    rcases writeReg_cases s k v with ⟨r, h, -⟩ | ⟨-, h⟩ | ⟨-, h⟩ <;> simp only [effect, h]
    · rfl
    · rfl
    · rcases command_cases s v with ⟨-, h⟩ | ⟨-, h⟩ | ⟨-, h⟩ | ⟨-, h⟩ | ⟨-, h⟩ <;> rw [h] <;> rfl
  | syncByte b => exact syncByteBody_params s b
  | syncEnd => exact syncEndBody_params s
  | syncIoErr => exact syncIoErrBody_params s
  | pnData => exact pnDataBody_params s
  | pnEnd => exact pushPnOut_params _ _
  | pnIoErr => exact pushPnOut_params _ _
  | fpData => exact fpDataBody_params s
  | tcDecode => exact tcDecodeBody_params s
  | _ => rfl

/-! ### The registers (R31 to R34) -/

theorem Regs.Inv.of_config {r r' : Regs} (h : r.Inv) (hc : r'.config = r.config) : r'.Inv := by
  simp only [Regs.config, Prod.mk.injEq] at hc
  obtain ⟨h1, h2, h3, h4⟩ := hc
  exact ⟨h1 ▸ h.ctrl, h2 ▸ h.blockSize, h3 ▸ h.mpduOffset, h4 ▸ h.trailerLen⟩

theorem Regs.inv_reset : Regs.reset.Inv := ⟨by decide, by decide, by decide, by decide⟩

theorem command_regs_inv (s : State) (v : Word) (h : s.regs.Inv) : (s.command v).regs.Inv := by
  rcases command_cases s v with ⟨-, hc⟩ | ⟨-, hc⟩ | ⟨-, hc⟩ | ⟨-, hc⟩ | ⟨-, hc⟩ <;> rw [hc]
  · exact h
  · exact h.of_config rfl
  · exact h.of_config rfl
  · exact Regs.inv_reset
  · exact h.of_config rfl

theorem writeReg_regs_inv (s : State) (k : BitVec 4) (v : Word) (h : s.regs.Inv) : (s.writeReg k v).regs.Inv := by
  rcases writeReg_cases s k v with ⟨r, hw, hr⟩ | ⟨-, hw⟩ | ⟨-, hw⟩ <;> rw [hw]
  · exact hr.inv h
  · exact h.of_config rfl
  · exact command_regs_inv s v h

/-- Only a register write and a reset reach the configuration (R361). -/
theorem effect_config {i : Instr} (s : State) (hw : ∀ k v, i ≠ .regWr k v) (hr : i ≠ .cmdSoftReset) :
    (effect i s).regs.config = s.regs.config := by
  cases i with
  | regWr k v => exact absurd rfl (hw k v)
  | cmdSoftReset => exact absurd rfl hr
  | syncByte b => exact syncByteBody_config s b
  | syncEnd => rw [effect, syncEndBody_regs]; split <;> rfl
  | syncIoErr => rw [effect, syncIoErrBody_regs]; rfl
  | pnData => rw [effect, pnDataBody_regs]
  | pnEnd => rw [effect, pushPnOut_regs]; rfl
  | pnIoErr => rw [effect, pushPnOut_regs]; rfl
  | fpData => exact fpDataBody_config s
  | tcDecode => exact tcDecodeBody_config s
  | _ => rfl

theorem effect_regs_inv (i : Instr) {s : State} (h : s.regs.Inv) : (effect i s).regs.Inv := by
  by_cases hw : ∃ k v, i = .regWr k v
  · obtain ⟨k, v, rfl⟩ := hw
    exact writeReg_regs_inv s k v h
  · by_cases hr : i = .cmdSoftReset
    · subst hr; exact Regs.inv_reset
    · exact h.of_config (effect_config s (fun k v e => hw ⟨k, v, e⟩) hr)

/-! ### SYNC's state (R43, R152) -/

/-- A SYNC with nothing in its window and buffer has the invariant, but in COLLECT. -/
theorem SyncUnit.inv_of_empty (st : SyncState) (n : BitVec 16) (p : Params) (h : st ≠ .collect) :
    SyncUnit.Inv ⟨st, [], [], n⟩ p where
  win := Nat.zero_le _
  notMarker := by simp [asm]
  winOnlyInSearch _ := rfl
  bufOnlyInCollect _ := rfl
  bufShort hc := absurd hc h
  bsizeFits hc := absurd hc h

theorem SyncUnit.inv_reset (p : Params) : SyncUnit.reset.Inv p := SyncUnit.inv_of_empty _ _ _ (by decide)

theorem length_nextWin_le (s : State) (b : Byte) (h : s.sync.win.length ≤ 4) : (s.nextWin b).length ≤ 4 := by
  unfold State.nextWin
  split <;> simp only [List.length_append, List.length_tail, List.length_singleton] <;> omega

/-- A byte in SEARCH: the marker latches a legal BSIZE with an empty buffer; otherwise the new window is not the
marker. -/
theorem searchByte_sync_inv (s : State) (b : Byte) (h : s.sync.Inv s.params) (hs : s.sync.state = .search)
    (hl : s.bsizeLegal = true) : (s.searchByte b).sync.Inv s.params := by
  rw [searchByte_eq]
  split
  · have hb : 0 < s.bsize.toNat ∧ s.bsize.toNat ≤ s.params.blockMax := by simpa [State.bsizeLegal] using hl
    exact ⟨Nat.zero_le _, by simp [asm], fun _ => rfl, fun _ => rfl, fun _ => hb.1, fun _ => hb.2⟩
  · next hne =>
    exact { h with
      win := length_nextWin_le s b h.win
      notMarker := hne
      winOnlyInSearch := fun hn => absurd hs hn }

/-- A byte in COLLECT: the block is complete and the buffer empty, or the buffer is still short of the block. -/
theorem collectByte_sync_inv (s : State) (b : Byte) (h : s.sync.Inv s.params) (hc : s.sync.state = .collect) :
    (s.collectByte b).sync.Inv s.params := by
  have hwin : s.sync.win = [] := h.winOnlyInSearch (by simp [hc])
  have hshort := h.bufShort hc
  rw [collectByte_eq]
  split
  · exact { h with
      winOnlyInSearch := fun _ => hwin
      bufOnlyInCollect := fun _ => rfl
      bufShort := nofun
      bsizeFits := nofun }
  · next hne =>
    exact { h with
      bufOnlyInCollect := fun hn => absurd hc hn
      bufShort := fun _ => by simp only [setSync_sync, List.length_append, List.length_singleton]; omega }

theorem syncByteBody_sync_inv {b : Byte} {s : State} (hg : guardSyncByte b s = true) (h : s.sync.Inv s.params) :
    (s.syncByteBody b).sync.Inv s.params := by
  rcases syncActive_cases s (syncActive_of_guardSyncByte s hg) with ⟨hs, hl⟩ | hc
  · rw [syncByteBody_search s b hs]
    exact searchByte_sync_inv s.popSi.bumpStreamPos b h hs hl
  · rw [syncByteBody_collect s b hc]
    exact collectByte_sync_inv s.popSi.bumpStreamPos b h hc

theorem command_sync (s : State) (v : Word) :
    (s.command v).sync = s.sync ∨ (s.command v).sync = SyncUnit.reset := by
  rcases command_cases s v with ⟨-, h⟩ | ⟨-, h⟩ | ⟨-, h⟩ | ⟨-, h⟩ | ⟨-, h⟩ <;> rw [h]
  · exact .inl rfl
  · exact .inr rfl
  · exact .inl rfl
  · exact .inr rfl
  · exact .inl rfl

theorem writeReg_sync (s : State) (k : BitVec 4) (v : Word) :
    (s.writeReg k v).sync = s.sync ∨ (s.writeReg k v).sync = SyncUnit.reset := by
  rcases writeReg_cases s k v with ⟨r, h, -⟩ | ⟨-, h⟩ | ⟨-, h⟩ <;> rw [h]
  · exact .inl rfl
  · exact .inl rfl
  · exact command_sync s v

/-- SYNC's state is changed by SYNC's own steps and by the resets only (R370). -/
theorem effect_sync {i : Instr} (s : State) (hi : agentOf i ≠ .sync) :
    (effect i s).sync = s.sync ∨ (effect i s).sync = SyncUnit.reset := by
  cases i with
  | syncByte b => exact absurd rfl hi
  | syncEnd => exact absurd rfl hi
  | syncIoErr => exact absurd rfl hi
  | regWr k v => exact writeReg_sync s k v
  | cmdSyncRestart => exact .inr rfl
  | cmdSoftReset => exact .inr rfl
  | pnData => exact .inl (pnDataBody_sync s)
  | pnEnd => exact .inl (pushPnOut_sync _ _)
  | pnIoErr => exact .inl (pushPnOut_sync _ _)
  | fpData => exact .inl (fpDataBody_sync s)
  | tcDecode => exact .inl (tcDecodeBody_sync s)
  | _ => exact .inl rfl

theorem effect_sync_inv {i : Instr} {s : State} (hg : guard i s = true) (h : s.sync.Inv s.params) :
    (effect i s).sync.Inv s.params := by
  by_cases hi : agentOf i = .sync
  · cases i with
    | syncByte b => exact syncByteBody_sync_inv hg h
    | syncEnd => rw [effect, syncEndBody_sync]; exact SyncUnit.inv_of_empty _ _ _ (by decide)
    | syncIoErr => rw [effect, syncIoErrBody_sync]; exact SyncUnit.inv_of_empty _ _ _ (by decide)
    | _ => cases hi
  · rcases effect_sync s hi with he | he <;> rw [he]
    · exact h
    · exact SyncUnit.inv_reset _

/-! ### The VC table (R45) -/

theorem command_vc (s : State) (v : Word) :
    (s.command v).vc = s.vc ∨ ((v = 2#32 ∨ v = 3#32) ∧ (s.command v).vc = []) := by
  rcases command_cases s v with ⟨-, h⟩ | ⟨-, h⟩ | ⟨hv, h⟩ | ⟨hv, h⟩ | ⟨-, h⟩ <;> rw [h]
  · exact .inl rfl
  · exact .inl rfl
  · exact .inr ⟨.inl hv, rfl⟩
  · exact .inr ⟨.inr hv, rfl⟩
  · exact .inl rfl

/-- An operation empties the VC table (R341, R342): CMD.VC_CLEAR, CMD.SOFT_RESET and their register writes. -/
def ClearsVc (i : Instr) : Prop :=
  i = .cmdVcClear ∨ i = .cmdSoftReset ∨ i = .regWr 15#4 2#32 ∨ i = .regWr 15#4 3#32

theorem writeReg_vc (s : State) (k : BitVec 4) (v : Word) :
    (s.writeReg k v).vc = s.vc ∨ (ClearsVc (.regWr k v) ∧ (s.writeReg k v).vc = []) := by
  rcases writeReg_cases s k v with ⟨r, h, -⟩ | ⟨-, h⟩ | ⟨rfl, h⟩ <;> rw [h]
  · exact .inl rfl
  · exact .inl rfl
  · rcases command_vc s v with hv | ⟨rfl | rfl, hv⟩
    · exact .inl hv
    · exact .inr ⟨.inr (.inr (.inl rfl)), hv⟩
    · exact .inr ⟨.inr (.inr (.inr rfl)), hv⟩

/-- The VC table is changed by FP.DATA, which records the counter of the frame's key, and by a clearing operation
only (R45, R370). -/
theorem effect_vc {i : Instr} {s : State} (hg : guard i s = true) :
    (effect i s).vc = s.vc ∨ (ClearsVc i ∧ (effect i s).vc = [])
      ∨ (i = .fpData ∧ ∃ B q, s.ports.fi = .data B :: q
          ∧ (effect i s).vc = s.vc.record (frameKey B) (frameCounter B)) := by
  cases i with
  | regWr k v =>
    rcases writeReg_vc s k v with h | h
    · exact .inl h
    · exact .inr (.inl h)
  | cmdVcClear => exact .inr (.inl ⟨.inl rfl, rfl⟩)
  | cmdSoftReset => exact .inr (.inl ⟨.inr (.inl rfl), rfl⟩)
  | syncByte b => exact .inl (syncByteBody_vc s b)
  | syncEnd => exact .inl (syncEndBody_vc s)
  | syncIoErr => exact .inl (syncIoErrBody_vc s)
  | pnData => exact .inl (pnDataBody_vc s)
  | pnEnd => exact .inl (pushPnOut_vc _ _)
  | pnIoErr => exact .inl (pushPnOut_vc _ _)
  | fpData =>
    obtain ⟨B, q, hq, -, h⟩ := fpDataBody_of_guard s hg
    rw [effect, h]
    rcases parseFrame_vc s.popFi B with hv | hv
    · exact .inl hv
    · exact .inr (.inr ⟨rfl, B, q, hq, hv⟩)
  | tcDecode => exact .inl (tcDecodeBody_vc s)
  | _ => exact .inl rfl

theorem effect_vc_wf {i : Instr} {s : State} (hg : guard i s = true) (h : s.vc.wf) : (effect i s).vc.wf := by
  rcases effect_vc hg with he | ⟨-, he⟩ | ⟨-, B, q, -, he⟩ <;> rw [he]
  · exact h
  · exact List.Pairwise.nil
  · exact VcTable.record_wf _ _ h

/-! ### The ports (R47, R105) -/

theorem Ports.inv_reset (p : Params) : Ports.reset.Inv p := by
  constructor <;> simp [Ports.reset]

section Setters
variable {p : Ports} {m : Params}

theorem Ports.Inv.setSi {q : List SiItem} (h : p.Inv m) (hq : q.length ≤ m.qDepth) :
    ({ p with si := q } : Ports).Inv m :=
  { h with si := hq }

theorem Ports.Inv.setBo {q : List BlockItem} (h : p.Inv m) (hq : q.length ≤ m.qDepth)
    (hx : ∀ x ∈ q, x.fits m.blockMax) : ({ p with bo := q } : Ports).Inv m :=
  { h with bo := hq, boItems := hx }

theorem Ports.Inv.setPi {q : List BlockItem} (h : p.Inv m) (hq : q.length ≤ m.qDepth)
    (hx : ∀ x ∈ q, x.fits m.blockMax) : ({ p with pi := q } : Ports).Inv m :=
  { h with pi := hq, piItems := hx }

theorem Ports.Inv.setPo {q : List BlockItem} (h : p.Inv m) (hq : q.length ≤ m.qDepth)
    (hx : ∀ x ∈ q, x.fits m.blockMax) : ({ p with po := q } : Ports).Inv m :=
  { h with po := hq, poItems := hx }

theorem Ports.Inv.setFi {q : List BlockItem} (h : p.Inv m) (hq : q.length ≤ m.qDepth)
    (hx : ∀ x ∈ q, x.fits m.blockMax) : ({ p with fi := q } : Ports).Inv m :=
  { h with fi := hq, fiItems := hx }

theorem Ports.Inv.setFo {q : List FoItem} (h : p.Inv m) (hq : q.length ≤ m.qDepth) :
    ({ p with fo := q } : Ports).Inv m :=
  { h with fo := hq }

theorem Ports.Inv.setTi {q : List TiItem} (h : p.Inv m) (hq : q.length ≤ m.qDepth) (hx : ∀ x ∈ q, x.fits) :
    ({ p with ti := q } : Ports).Inv m :=
  { h with ti := hq, tiItems := hx }

theorem Ports.Inv.setTo {q : List ToItem} (h : p.Inv m) (hq : q.length ≤ m.qDepth) :
    ({ p with tout := q } : Ports).Inv m :=
  { h with tout := hq }

end Setters

@[simp] theorem BlockItem.fits_data (n : Nat) (B : List Byte) : (BlockItem.data B).fits n ↔ B.length ≤ n := Iff.rfl

@[simp] theorem TiItem.fits_tc (B : List Byte) : (TiItem.tc B).fits ↔ B.length ≤ tcLen := Iff.rfl

theorem length_tail_le {α : Type} {q : List α} {n : Nat} (h : q.length ≤ n) : q.tail.length ≤ n := by
  rw [List.length_tail]; omega

theorem forall_mem_tail {α : Type} {q : List α} {P : α → Prop} (h : ∀ x ∈ q, P x) : ∀ x ∈ q.tail, P x :=
  fun x hx => h x (List.mem_of_mem_tail hx)

theorem forall_mem_append_single {α : Type} {q : List α} {P : α → Prop} {y : α} (h : ∀ x ∈ q, P x) (hy : P y) :
    ∀ x ∈ q ++ [y], P x :=
  List.forall_mem_append.mpr ⟨h, List.forall_mem_singleton.mpr hy⟩

section PushAndPop
variable {s : State} (h : s.ports.Inv s.params)
include h

theorem pushSi_ports_inv (x : SiItem) (hr : s.room s.ports.si 1 = true) : (s.pushSi x).ports.Inv s.params :=
  h.setSi (by simpa using (s.room_iff _ _).mp hr)

theorem pushBo_ports_inv (x : BlockItem) (hr : s.room s.ports.bo 1 = true) (hx : x.fits s.params.blockMax) :
    (s.pushBo x).ports.Inv s.params :=
  h.setBo (by simpa using (s.room_iff _ _).mp hr) (forall_mem_append_single h.boItems hx)

theorem pushPi_ports_inv (x : BlockItem) (hr : s.room s.ports.pi 1 = true) (hx : x.fits s.params.blockMax) :
    (s.pushPi x).ports.Inv s.params :=
  h.setPi (by simpa using (s.room_iff _ _).mp hr) (forall_mem_append_single h.piItems hx)

theorem pushPo_ports_inv (x : BlockItem) (hr : s.room s.ports.po 1 = true) (hx : x.fits s.params.blockMax) :
    (s.pushPo x).ports.Inv s.params :=
  h.setPo (by simpa using (s.room_iff _ _).mp hr) (forall_mem_append_single h.poItems hx)

theorem pushFi_ports_inv (x : BlockItem) (hr : s.room s.ports.fi 1 = true) (hx : x.fits s.params.blockMax) :
    (s.pushFi x).ports.Inv s.params :=
  h.setFi (by simpa using (s.room_iff _ _).mp hr) (forall_mem_append_single h.fiItems hx)

theorem pushFo_ports_inv (x : FoItem) (hr : s.room s.ports.fo 1 = true) : (s.pushFo x).ports.Inv s.params :=
  h.setFo (by simpa using (s.room_iff _ _).mp hr)

theorem pushTi_ports_inv (x : TiItem) (hr : s.room s.ports.ti 1 = true) (hx : x.fits) :
    (s.pushTi x).ports.Inv s.params :=
  h.setTi (by simpa using (s.room_iff _ _).mp hr) (forall_mem_append_single h.tiItems hx)

theorem pushSyncOut_ports_inv (x : BlockItem) (hr : s.room s.syncOut 1 = true) (hx : x.fits s.params.blockMax) :
    (s.pushSyncOut x).ports.Inv s.params := by
  cases hc : s.chainPn with
  | true => rw [pushSyncOut_chained s hc]; exact pushPi_ports_inv h x (by simpa [State.syncOut, hc] using hr) hx
  | false => rw [pushSyncOut_unchained s hc]; exact pushBo_ports_inv h x (by simpa [State.syncOut, hc] using hr) hx

theorem pushPnOut_ports_inv (x : BlockItem) (hr : s.room s.pnOut 1 = true) (hx : x.fits s.params.blockMax) :
    (s.pushPnOut x).ports.Inv s.params := by
  cases hc : s.chainFp with
  | true => rw [pushPnOut_chained s hc]; exact pushFi_ports_inv h x (by simpa [State.pnOut, hc] using hr) hx
  | false => rw [pushPnOut_unchained s hc]; exact pushPo_ports_inv h x (by simpa [State.pnOut, hc] using hr) hx

theorem popSi_ports_inv : s.popSi.ports.Inv s.params := h.setSi (length_tail_le h.si)
theorem popBo_ports_inv : s.popBo.ports.Inv s.params := h.setBo (length_tail_le h.bo) (forall_mem_tail h.boItems)
theorem popPi_ports_inv : s.popPi.ports.Inv s.params := h.setPi (length_tail_le h.pi) (forall_mem_tail h.piItems)
theorem popPo_ports_inv : s.popPo.ports.Inv s.params := h.setPo (length_tail_le h.po) (forall_mem_tail h.poItems)
theorem popFi_ports_inv : s.popFi.ports.Inv s.params := h.setFi (length_tail_le h.fi) (forall_mem_tail h.fiItems)
theorem popFo_ports_inv : s.popFo.ports.Inv s.params := h.setFo (length_tail_le h.fo)
theorem popTi_ports_inv : s.popTi.ports.Inv s.params := h.setTi (length_tail_le h.ti) (forall_mem_tail h.tiItems)
theorem popTo_ports_inv : s.popTo.ports.Inv s.params := h.setTo (length_tail_le h.tout)

theorem writeReg_ports_inv (k : BitVec 4) (v : Word) : (s.writeReg k v).ports.Inv s.params := by
  rcases writeReg_cases s k v with ⟨r, hw, -⟩ | ⟨-, hw⟩ | ⟨-, hw⟩ <;> rw [hw]
  · exact h
  · exact h
  · rcases command_cases s v with ⟨-, hc⟩ | ⟨-, hc⟩ | ⟨-, hc⟩ | ⟨-, hc⟩ | ⟨-, hc⟩ <;> rw [hc]
    · exact h
    · exact h
    · exact h
    · exact Ports.inv_reset _
    · exact h

/-- PN passes on an item that fits to a port with room. -/
theorem pnStep_ports_inv (x : BlockItem) (hr : s.room s.pnOut 1 = true) (hx : x.fits s.params.blockMax) :
    (s.popPi.pushPnOut x).ports.Inv s.params :=
  pushPnOut_ports_inv (s := s.popPi) (popPi_ports_inv h) x hr hx

theorem fpStep_ports_inv (x : FoItem) (hr : s.room s.ports.fo 1 = true) : (s.popFi.pushFo x).ports.Inv s.params :=
  pushFo_ports_inv (s := s.popFi) (popFi_ports_inv h) x hr

theorem pnDataBody_ports_inv (hg : guardPnData s = true) : s.pnDataBody.ports.Inv s.params := by
  obtain ⟨B, q, hq, hr, hb⟩ := pnDataBody_of_guard s hg
  have hB : B.length ≤ s.params.blockMax := h.piItems (.data B) (by simp [hq])
  rw [hb]
  exact pnStep_ports_inv h _ hr (by simpa using hB)

theorem fpDataBody_ports_inv (hg : guardFpData s = true) : s.fpDataBody.ports.Inv s.params := by
  obtain ⟨B, q, -, hr, hb⟩ := fpDataBody_of_guard s hg
  obtain ⟨xs, hx, hp⟩ := parseFrame_ports s.popFi B
  have hroom : s.ports.fo.length + 2 ≤ s.params.qDepth := (s.room_iff _ _).mp hr
  rw [hb, hp]
  exact (popFi_ports_inv h).setFo (by simp only [popFi_ports, List.length_append]; omega)

theorem tcDecodeBody_ports_inv (hg : guardTcDecode s = true) : s.tcDecodeBody.ports.Inv s.params := by
  obtain ⟨B, q, -, hr, hb⟩ := tcDecodeBody_of_guard s hg
  obtain ⟨x, hp⟩ := convertTime_ports s.popTi B
  rw [hb, hp]
  exact (popTi_ports_inv h).setTo (by simpa using (s.room_iff _ _).mp hr)

/-- SYNC emits a block only where the port has room, and of the latched size, which is at most BLOCK_MAX. -/
theorem syncByteBody_ports_inv {b : Byte} (hs : s.sync.Inv s.params) (hg : guardSyncByte b s = true) :
    (s.syncByteBody b).ports.Inv s.params := by
  have hpop : s.popSi.bumpStreamPos.ports.Inv s.params := popSi_ports_inv h
  rcases syncActive_cases s (syncActive_of_guardSyncByte s hg) with ⟨hst, -⟩ | hst
  · rw [syncByteBody_search s b hst, searchByte_ports]
    exact hpop
  · rw [syncByteBody_collect s b hst, collectByte_eq]
    split
    · next hlen =>
      have hfit : (s.sync.buf ++ [b]).length ≤ s.params.blockMax := by
        have := hs.bsizeFits hst
        simp only [List.length_append, List.length_singleton]
        exact hlen ▸ this
      exact pushSyncOut_ports_inv (s := s.popSi.bumpStreamPos) hpop _ (room_of_guardSyncByte s hg hst hlen) hfit
    · exact hpop

theorem syncEndBody_ports_inv (hr : s.room s.syncOut 1 = true) : s.syncEndBody.ports.Inv s.params := by
  rw [syncEndBody_ports]
  exact pushSyncOut_ports_inv (s := s.popSi) (popSi_ports_inv h) .endMark hr trivial

theorem syncIoErrBody_ports_inv (hr : s.room s.syncOut 1 = true) : s.syncIoErrBody.ports.Inv s.params := by
  rw [syncIoErrBody_ports]
  exact pushSyncOut_ports_inv (s := s.popSi) (popSi_ports_inv h) .ioErr hr trivial

end PushAndPop

theorem effect_ports_inv {i : Instr} {s : State} (hs : s.sync.Inv s.params) (h : s.ports.Inv s.params)
    (ha : admits i s = true) (hg : guard i s = true) : (effect i s).ports.Inv s.params := by
  cases i with
  | pushSiByte b => exact pushSi_ports_inv h _ hg
  | pushSiEnd => exact pushSi_ports_inv h _ hg
  | pushSiIoErr => exact pushSi_ports_inv h _ hg
  | pushPiData B => exact pushPi_ports_inv h _ hg (by simpa [admits] using ha)
  | pushPiEnd => exact pushPi_ports_inv h _ hg trivial
  | pushPiIoErr => exact pushPi_ports_inv h _ hg trivial
  | pushFiData B => exact pushFi_ports_inv h _ hg (by simpa [admits] using ha)
  | pushFiEnd => exact pushFi_ports_inv h _ hg trivial
  | pushFiIoErr => exact pushFi_ports_inv h _ hg trivial
  | pushTiTc B => exact pushTi_ports_inv h _ hg (by simpa [admits] using ha)
  | popBo => exact popBo_ports_inv h
  | popPo => exact popPo_ports_inv h
  | popFo => exact popFo_ports_inv h
  | popTo => exact popTo_ports_inv h
  | regRd k => exact h
  | regWr k v => exact writeReg_ports_inv h k v
  | cmdNop => exact h
  | cmdSyncRestart => exact h
  | cmdVcClear => exact h
  | cmdSoftReset => exact Ports.inv_reset _
  | syncByte b => exact syncByteBody_ports_inv h hs hg
  | syncEnd => exact syncEndBody_ports_inv h (Bool.and_eq_true_iff.mp hg).2
  | syncIoErr => exact syncIoErrBody_ports_inv h (Bool.and_eq_true_iff.mp hg).2
  | pnData => exact pnDataBody_ports_inv h hg
  | pnEnd => exact pnStep_ports_inv h _ (Bool.and_eq_true_iff.mp hg).2 trivial
  | pnIoErr => exact pnStep_ports_inv h _ (Bool.and_eq_true_iff.mp hg).2 trivial
  | fpData => exact fpDataBody_ports_inv h hg
  | fpEnd => exact fpStep_ports_inv h _ (Bool.and_eq_true_iff.mp hg).2
  | fpIoErr => exact fpStep_ports_inv h _ (Bool.and_eq_true_iff.mp hg).2
  | tcDecode => exact tcDecodeBody_ports_inv h hg

/-! ### One step -/

/-- Every operation that goes on keeps the invariant. -/
theorem exec_inv {i : Instr} {s t : State} (h : s.Inv) (he : exec i s = .next t) : t.Inv := by
  rcases exec_eq_next he with rfl | ⟨ha, hg, rfl⟩
  · exact h
  · exact {
      regs := effect_regs_inv i h.regs
      sync := (effect_params i s).symm ▸ effect_sync_inv hg h.sync
      ports := (effect_params i s).symm ▸ effect_ports_inv h.sync h.ports ha hg
      vc := effect_vc_wf hg h.vc }

/-- A turn uses up the schedule only: the block stays as it is. -/
theorem advance_inv {s : State} (h : s.Inv) : s.advance.Inv := by
  unfold State.advance
  split <;> exact ⟨h.regs, h.sync, h.ports, h.vc⟩

/-- Issuing an operation touches the host's program only. -/
theorem issue_inv {s : State} (a : Agent) (i : Instr) (h : s.Inv) : (issue a i s).Inv := by
  have hr : (retire a s).Inv := by
    cases a with
    | host => exact ⟨h.regs, h.sync, h.ports, h.vc⟩
    | _ => exact h
  unfold issue
  split
  · exact h
  · exact hr

/-- What an agent's step that goes on can be: nothing, or one operation of that agent. -/
theorem agentStep_eq_next {a : Agent} {s t : State} (h : agentStep a s = .next t) :
    t = s ∨ ∃ i, agentOf i = a ∧ exec i (issue a i s) = .next t := by
  unfold agentStep at h
  split at h
  · cases h; exact .inl rfl
  · split at h
    · cases h
    · next i _ =>
      split at h
      · next ha => exact .inr ⟨i, ha, h⟩
      · cases h

/-- Settles O40: the four parts of the invariant are kept by each effect, and a step is an effect on the block. -/
theorem stepKeepsTheInvariant : Obligations.StepKeepsTheInvariant := by
  intro s t h hstep
  rcases agentStep_eq_next hstep with rfl | ⟨i, -, he⟩
  · exact advance_inv h
  · exact exec_inv (issue_inv _ i (advance_inv h)) he

end Sys2Proof.Machine
end

section
/-! PROOFS, the frame of the VC table (O36), the accounting of the bytes (O28), and the sticky bits of STATUS (O44,
O52): who raises an event and who clears its bit. -/

namespace Sys2Proof.Machine

/-! ### The VC table -/

/-- The key of a frame as a number, spelled from its first two bytes (R108, R105). -/
theorem toNat_frameKey (B : List Byte) :
    (frameKey B).toNat =
      ((B.getD 0 0#8).toNat % 64 * 4 + (B.getD 1 0#8).toNat / 64) * 64 + (B.getD 1 0#8).toNat % 64 := by
  have h1 := (B.getD 1 0#8).isLt
  simp only [frameKey, vcKey, frameScid, frameVcid, byteAt, BitVec.toNat_append, BitVec.extractLsb'_toNat,
    Nat.shiftRight_eq_div_pow]
  rw [← Nat.shiftLeft_add_eq_or_of_lt (by omega), ← Nat.shiftLeft_add_eq_or_of_lt (by omega)]
  simp only [Nat.shiftLeft_eq]
  omega

/-- Settles O36: the table changes by a recorded frame, which leaves the other keys alone, or by being emptied. -/
theorem vcEntryChangesOnlyByItsKey : Obligations.VcEntryChangesOnlyByItsKey := by
  intro i s t k he hk
  rcases exec_eq_next he with rfl | ⟨-, hg, rfl⟩
  · exact absurd rfl hk
  rcases effect_vc hg with hv | ⟨hc, -⟩ | ⟨rfl, B, q, hq, hv⟩
  · exact absurd (congrArg (VcTable.last · k) hv) hk
  · exact .inr hc
  · have hkey : k = frameKey B := by
      by_contra hne
      exact hk (by rw [hv, VcTable.last_record_other _ _ hne])
    exact .inl ⟨rfl, B, q, hq, hkey ▸ toNat_frameKey B⟩

/-! ### The bytes that SYNC consumes (R51) -/

/-- The bytes that are accounted for, modulo 2^32: skipped, in a marker, in the window, in the buffer, emitted. -/
def State.accounted (s : State) : Word :=
  s.regs.skipCount + 4#32 * s.regs.asmCount + BitVec.ofNat 32 s.sync.win.length
    + BitVec.ofNat 32 s.sync.buf.length + BitVec.ofNat 32 (sizeSum s.syncOut)

theorem sizeSum_append (q r : List BlockItem) : sizeSum (q ++ r) = sizeSum q + sizeSum r := by
  simp [sizeSum]

theorem sizeSum_data (B : List Byte) : sizeSum [.data B] = B.length := by
  simp [sizeSum, BlockItem.size]

/-- A push of SYNC's appends to the items of its output port. -/
theorem syncOut_pushSyncOut (s : State) (x : BlockItem) : (s.pushSyncOut x).syncOut = s.syncOut ++ [x] := by
  cases h : s.chainPn with
  | true => rw [pushSyncOut_chained s h, State.syncOut, State.syncOut, if_pos h]; exact if_pos h
  | false =>
    have hn : ¬ s.chainPn = true := by simp [h]
    rw [pushSyncOut_unchained s h, State.syncOut, State.syncOut, if_neg hn]; exact if_neg hn

/-- The window grows by the byte, or is full and skips one. -/
theorem skipped_add_length_nextWin (s : State) (b : Byte) :
    s.skipped + BitVec.ofNat 32 (s.nextWin b).length = BitVec.ofNat 32 s.sync.win.length + 1#32 := by
  unfold State.skipped State.nextWin
  split
  · next h => simp [h]
  · simp [BitVec.ofNat_add]

/-- A byte in SEARCH: the byte is in the window, skipped, or the fourth of a marker. -/
theorem accounted_searchByte (s : State) (b : Byte) (hbuf : s.sync.buf = []) :
    (s.searchByte b).accounted = s.accounted + 1#32 := by
  have hw := skipped_add_length_nextWin s b
  rw [searchByte_eq]
  split
  · next hasm =>
    rw [hasm] at hw
    simp only [State.accounted, setRegs_regs, setRegs_sync, setSync_sync, hbuf]
    change _ + BitVec.ofNat 32 (sizeSum s.syncOut) = _
    simp only [asm, List.length_cons, List.length_nil] at hw ⊢
    bv_omega
  · simp only [State.accounted, setRegs_regs, setRegs_sync, setSync_sync]
    change _ + BitVec.ofNat 32 (sizeSum s.syncOut) = _
    bv_omega

/-- A byte in COLLECT: the byte is in the buffer, or in the block emitted with it. -/
theorem accounted_collectByte (s : State) (b : Byte) : (s.collectByte b).accounted = s.accounted + 1#32 := by
  rw [collectByte_eq]
  split
  · simp only [State.accounted, bumpBlock_regs, bumpBlock_sync, setSync_sync, setSync_regs, pushSyncOut_regs]
    change _ + BitVec.ofNat 32 (sizeSum (s.pushSyncOut _).syncOut) = _
    rw [syncOut_pushSyncOut, sizeSum_append, sizeSum_data, List.length_append, BitVec.ofNat_add, BitVec.ofNat_add]
    simp only [List.length_cons, List.length_nil]
    bv_omega
  · simp only [State.accounted, setSync_sync, setSync_regs]
    change _ + BitVec.ofNat 32 (sizeSum s.syncOut) = _
    rw [List.length_append, BitVec.ofNat_add, List.length_singleton]
    bv_omega

/-- Settles O28: in SEARCH and in COLLECT the byte taken is accounted for once. -/
theorem everyByteIsAccountedFor : Obligations.EveryByteIsAccountedFor := by
  intro b s t hbuf hg he
  rw [exec_of_guard (i := .syncByte b) rfl hg] at he
  obtain rfl : s.syncByteBody b = t := Host.Outcome.next.inj he
  rcases syncActive_cases s (syncActive_of_guardSyncByte s hg) with ⟨hs, -⟩ | hc
  · rw [syncByteBody_search s b hs]
    exact ⟨searchByte_streamPos _ b, accounted_searchByte s.popSi.bumpStreamPos b (hbuf hs)⟩
  · rw [syncByteBody_collect s b hc]
    exact ⟨collectByte_streamPos _ b, accounted_collectByte s.popSi.bumpStreamPos b⟩

/-! ### The sticky bits (R35, R48) -/

/-- The operation that raises an event (R360). -/
def Event.RaisedBy (e : Event) (i : Instr) (s : State) : Prop :=
  match e with
  | .ioErr => i = .syncIoErr
  | .trunc => i = .syncEnd ∧ s.sync.state = .collect
  | .malformed | .gap => i = .fpData
  | .tcErr => i = .tcDecode
  | .cmdErr => ∃ v : Word, i = .regWr 15#4 v ∧ 4 ≤ v.toNat

/-- An event's mask has the bit of its cause code alone. -/
theorem Event.getLsbD_bit (e : Event) (j : Nat) : e.bit.getLsbD j = true ↔ j = e.causeCode - 8 := by
  by_cases hj : j < 6
  · revert j; cases e <;> decide
  · have : e.causeCode - 8 < 6 := by cases e <;> decide
    rw [BitVec.getLsbD_of_ge _ _ (by omega)]
    simp only [Bool.false_eq_true, false_iff]; omega

/-- The four ways of an operation with the sticky bits `b` of a state: as they were, one event raised, those written
as 1 cleared, or all of them reset. -/
inductive StickyStep (i : Instr) (s : State) (b : BitVec 6) : Prop
  | same (h : b = s.regs.sticky)
  | raised (e : Event) (he : e.RaisedBy i s) (h : b = s.regs.sticky ||| e.bit)
  | cleared (v : Word) (hi : i = .regWr 4#4 v) (h : b = (s.clearSticky v).regs.sticky)
  | reset (hi : i = .cmdSoftReset ∨ i = .regWr 15#4 3#32) (h : b = 0#6)

theorem writeReg_sticky (s : State) (k : BitVec 4) (v : Word) :
    StickyStep (.regWr k v) s (s.writeReg k v).regs.sticky := by
  rcases writeReg_cases s k v with ⟨r, h, hr⟩ | ⟨rfl, h⟩ | ⟨rfl, h⟩ <;> rw [h]
  · exact .same hr.sticky
  · exact .cleared v rfl rfl
  · rcases command_cases s v with ⟨-, hc⟩ | ⟨-, hc⟩ | ⟨-, hc⟩ | ⟨rfl, hc⟩ | ⟨hv, hc⟩ <;> rw [hc]
    · exact .same rfl
    · exact .same rfl
    · exact .same rfl
    · exact .reset (.inr rfl) rfl
    · exact .raised .cmdErr ⟨v, rfl, hv⟩ rfl

/-- What an enabled operation does to the sticky bits. -/
theorem effect_sticky {i : Instr} {s : State} (hg : guard i s = true) :
    StickyStep i s (effect i s).regs.sticky := by
  cases i with
  | regWr k v => exact writeReg_sticky s k v
  | cmdSoftReset => exact .reset (.inl rfl) rfl
  | syncByte b => exact .same (syncByteBody_sticky s b)
  | syncEnd =>
    rw [effect, syncEndBody_regs]
    split
    · next h => exact .raised .trunc ⟨rfl, h⟩ rfl
    · exact .same rfl
  | syncIoErr => rw [effect, syncIoErrBody_regs]; exact .raised .ioErr rfl rfl
  | pnData => rw [effect, pnDataBody_regs]; exact .same rfl
  | pnEnd => rw [effect, pushPnOut_regs]; exact .same rfl
  | pnIoErr => rw [effect, pushPnOut_regs]; exact .same rfl
  | fpData =>
    obtain ⟨B, q, -, -, h⟩ := fpDataBody_of_guard s hg
    rw [effect, h]
    rcases parseFrame_sticky s.popFi B with hs | ⟨e, rfl | rfl, hs⟩
    · exact .same hs
    · exact .raised .malformed rfl hs
    · exact .raised .gap rfl hs
  | tcDecode =>
    obtain ⟨B, q, -, -, h⟩ := tcDecodeBody_of_guard s hg
    rw [effect, h]
    rcases convertTime_sticky s.popTi B with hs | hs
    · exact .same hs
    · exact .raised .tcErr rfl hs
  | _ => exact .same rfl

theorem exec_sticky {i : Instr} {s t : State} (he : exec i s = .next t) : StickyStep i s t.regs.sticky := by
  rcases exec_eq_next he with rfl | ⟨-, hg, rfl⟩
  · exact .same rfl
  · exact effect_sticky hg

/-- Settles O44: raising an event clears no bit, so a cleared bit was written as 1 or reset. -/
theorem stickyBitsAreSticky : Obligations.StickyBitsAreSticky := by
  intro i s t j he hs ht
  have hj : j < 6 := BitVec.lt_of_getLsbD hs
  cases exec_sticky he with
  | same h => rw [h, hs] at ht; cases ht
  | raised e _ h => rw [h, BitVec.getLsbD_or, hs] at ht; cases ht
  | cleared v hi h =>
    rw [h, clearSticky_getLsbD s v j hj, hs] at ht
    exact .inl ⟨v, hi, by simpa using ht⟩
  | reset hi _ => exact .inr hi

/-- Settles O52: a bit that rises is the one bit of the event that the operation raises. -/
theorem stickyBitsHaveTheirSetters : Obligations.StickyBitsHaveTheirSetters := by
  intro i s t j he hs ht
  cases exec_sticky he with
  | same h => rw [h, hs] at ht; cases ht
  | raised e hr h =>
    rw [h, BitVec.getLsbD_or, hs, Bool.false_or, Event.getLsbD_bit] at ht
    subst ht
    cases e with
    | ioErr => exact .inl ⟨rfl, hr⟩
    | trunc => exact .inr (.inl ⟨rfl, hr⟩)
    | malformed => exact .inr (.inr (.inl ⟨rfl, hr⟩))
    | gap => exact .inr (.inr (.inr (.inl ⟨rfl, hr⟩)))
    | tcErr => exact .inr (.inr (.inr (.inr (.inl ⟨rfl, hr⟩))))
    | cmdErr => exact .inr (.inr (.inr (.inr (.inr ⟨rfl, hr⟩))))
  | cleared v _ h =>
    rw [h, clearSticky_getLsbD s v j (BitVec.lt_of_getLsbD (h ▸ ht)), hs] at ht
    cases ht
  | reset _ h => rw [h] at ht; simp at ht

end Sys2Proof.Machine
end

section
/-! PROOFS, the computed bits of STATUS: IDLE (O47) and CFG_ERR (O48), and the operation that a unit's turn runs. -/

namespace Sys2Proof.Machine

/-! ### STATUS as a word (R35) -/

/-- IDLE is bit 3 of STATUS. -/
theorem getLsbD_status_idle (s : State) : (s.readReg 4#4).getLsbD 3 = s.idle := by
  show s.statusWord.getLsbD 3 = s.idle
  simp only [State.statusWord, BitVec.getLsbD_append]
  simp

/-- CFG_ERR is bit 2 of STATUS. -/
theorem getLsbD_status_cfgErr (s : State) : (s.readReg 4#4).getLsbD 2 = s.cfgErr := by
  show s.statusWord.getLsbD 2 = s.cfgErr
  simp only [State.statusWord, BitVec.getLsbD_append]
  simp

/-! ### IDLE (R37) -/

/-- SYNC has no enabled step exactly when none of its operations has its guard true. -/
theorem syncEnabled_eq_false_iff (s : State) :
    s.syncEnabled = false ↔
      (∀ b, guardSyncByte b s = false) ∧ guardSyncEnd s = false ∧ guardSyncIoErr s = false := by
  rcases h : s.ports.si.head? with _ | ⟨b | _ | _⟩ <;>
    simp [State.syncEnabled, guardSyncByte, guardSyncEnd, guardSyncIoErr, h]

/-- IDLE is 1 exactly when no unit operation is enabled. -/
theorem idle_iff (s : State) : s.idle = true ↔ ∀ i : Instr, isUnit i = true → guard i s = false := by
  simp only [State.idle, Bool.not_eq_true', Bool.or_eq_false_iff, syncEnabled_eq_false_iff]
  constructor
  · rintro ⟨⟨⟨⟨⟨⟨⟨⟨hb, he, hx⟩, h1⟩, h2⟩, h3⟩, h4⟩, h5⟩, h6⟩, h7⟩ i hi
    cases i with
    | syncByte b => exact hb b
    | syncEnd => exact he
    | syncIoErr => exact hx
    | pnData => exact h1
    | pnEnd => exact h2
    | pnIoErr => exact h3
    | fpData => exact h4
    | fpEnd => exact h5
    | fpIoErr => exact h6
    | tcDecode => exact h7
    | _ => cases hi
  · intro h
    exact ⟨⟨⟨⟨⟨⟨⟨⟨fun b => h (.syncByte b) rfl, h .syncEnd rfl, h .syncIoErr rfl⟩, h .pnData rfl⟩, h .pnEnd rfl⟩,
      h .pnIoErr rfl⟩, h .fpData rfl⟩, h .fpEnd rfl⟩, h .fpIoErr rfl⟩, h .tcDecode rfl⟩

/-! ### Decoding a unit step (R100, R103) -/

/-- A row that hits a descriptor agrees with it at every bit of its mask. -/
theorem getLsbD_eq_of_hits {d : BitVec 24} {r : OpcodeRow} (h : r.hits d = true) {j : Nat}
    (hm : r.mask.getLsbD j = true) : d.getLsbD j = r.pat.getLsbD j := by
  have hp : d &&& r.mask = r.pat := by simpa [OpcodeRow.hits] using h
  rw [← hp, BitVec.getLsbD_and, hm, Bool.and_true]

/-- A descriptor with A = 1 is looked up among the unit rows only (R100, R103). -/
theorem find?_opcodeTable_of_descA {d : BitVec 24} (h : descA d = true) :
    opcodeTable.find? (OpcodeRow.hits d) = unitRows.find? (OpcodeRow.hits d) := by
  have hA : ∀ r ∈ hostRows, r.mask.getLsbD 15 = true ∧ r.pat.getLsbD 15 = false := by decide
  have hnone : hostRows.find? (OpcodeRow.hits d) = none := by
    refine List.find?_eq_none.mpr fun r hr hit => ?_
    have := getLsbD_eq_of_hits hit (hA r hr).1
    rw [(hA r hr).2] at this
    exact absurd (h.symm.trans this) (by decide)
  rw [opcodeTable, List.find?_append, hnone, Option.none_or]

/-- The number of a descriptor from its fields (R100). -/
theorem toNat_mkDesc (p : BitVec 8) (a : Bool) (t : BitVec 7) (u : BitVec 8) :
    (mkDesc p a t u).toNat = ((p.toNat * 2 + a.toNat) * 128 + t.toNat) * 256 + u.toNat := by
  show BitVec.toNat (w := 8 + 1 + 7 + 8) (p ++ BitVec.ofBool a ++ t ++ u) = _
  rw [BitVec.toNat_append, BitVec.toNat_append, BitVec.toNat_append, BitVec.toNat_ofBool,
    ← Nat.shiftLeft_add_eq_or_of_lt u.isLt, ← Nat.shiftLeft_add_eq_or_of_lt t.isLt,
    ← Nat.shiftLeft_add_eq_or_of_lt (Bool.toNat_lt a)]
  simp only [Nat.shiftLeft_eq]

/-- The first unit row is SYNC.BYTE's, with the byte in SUB. -/
theorem decode_unitByte (b : Byte) : decode (unitTransaction (unitDesc .si tagData b)) = .ok (.syncByte b) := by
  have hnum : (unitDesc .si tagData b).toNat / 256 = 0x180 := by
    rw [unitDesc, toNat_mkDesc]
    have := b.isLt
    simp only [Space.number, tagData, BitVec.toNat_ofNat, Bool.toNat_true]
    omega
  have hit : (unitRows.head (by decide)).hits (unitDesc .si tagData b) = true :=
    beq_iff_eq.mpr ((and_byteMask_eq_iff _ 0x180 (by decide)).mpr hnum)
  have hrow : opcodeTable.find? (OpcodeRow.hits (unitDesc .si tagData b)) = some (unitRows.head (by decide)) :=
    (find?_opcodeTable_of_descA (descA_mkDesc _ _ _ _)).trans (List.find?_cons_of_pos hit)
  simp only [decode, unitTransaction, hrow]
  exact congrArg (fun u => Except.ok (Instr.syncByte u)) (descSub_mkDesc _ _ _ _)

/-- The operation that the head item of SI selects. -/
def SiItem.operation : SiItem → Instr
  | .byte b => .syncByte b
  | .endMark => .syncEnd
  | .ioErr => .syncIoErr

/-- The operation that the head item of PI selects. -/
def BlockItem.pnOperation : BlockItem → Instr
  | .data _ => .pnData
  | .endMark => .pnEnd
  | .ioErr => .pnIoErr

/-- The operation that the head item of FI selects. -/
def BlockItem.fpOperation : BlockItem → Instr
  | .data _ => .fpData
  | .endMark => .fpEnd
  | .ioErr => .fpIoErr

theorem decode_siStep (x : SiItem) : decode (unitTransaction x.stepDesc) = .ok x.operation := by
  cases x with
  | byte b => exact decode_unitByte b
  | endMark => decide
  | ioErr => decide

theorem decode_pnStep (x : BlockItem) : decode (unitTransaction (x.stepDesc .pi)) = .ok x.pnOperation := by
  cases x with
  | data B => show decode (unitTransaction (unitDesc .pi tagData 0#8)) = .ok .pnData; decide
  | endMark => decide
  | ioErr => decide

theorem decode_fpStep (x : BlockItem) : decode (unitTransaction (x.stepDesc .fi)) = .ok x.fpOperation := by
  cases x with
  | data B => show decode (unitTransaction (unitDesc .fi tagData 0#8)) = .ok .fpData; decide
  | endMark => decide
  | ioErr => decide

theorem decode_tcStep (x : TiItem) : decode (unitTransaction x.stepDesc) = .ok .tcDecode := by
  show decode (unitTransaction (unitDesc .ti tagData 0#8)) = .ok .tcDecode
  decide

/-- A unit presents nothing, or an operation of its own. -/
theorem fetch_unit {a : Agent} (ha : a ≠ .host) (s : State) :
    fetch a s = none ∨ ∃ t i, fetch a s = some t ∧ decode t = .ok i ∧ agentOf i = a := by
  cases a with
  | host => exact absurd rfl ha
  | sync =>
    cases h : s.ports.si.head? with
    | none => exact .inl (by simp [fetch, h])
    | some x => exact .inr ⟨_, _, by simp [fetch, h], decode_siStep x, by cases x <;> rfl⟩
  | pn =>
    cases h : s.ports.pi.head? with
    | none => exact .inl (by simp [fetch, h])
    | some x => exact .inr ⟨_, _, by simp [fetch, h], decode_pnStep x, by cases x <;> rfl⟩
  | fp =>
    cases h : s.ports.fi.head? with
    | none => exact .inl (by simp [fetch, h])
    | some x => exact .inr ⟨_, _, by simp [fetch, h], decode_fpStep x, by cases x <;> rfl⟩
  | tc =>
    cases h : s.ports.ti.head? with
    | none => exact .inl (by simp [fetch, h])
    | some x => exact .inr ⟨_, _, by simp [fetch, h], decode_tcStep x, rfl⟩

/-- A unit's operation runs in the state as it is: the host's program is not touched. -/
theorem issue_unit {a : Agent} (ha : a ≠ .host) (i : Instr) (s : State) : issue a i s = s := by
  have hr : retire a s = s := by
    cases a with
    | host => exact absurd rfl ha
    | _ => rfl
  rw [issue, hr, ite_self]

/-- A unit's turn is nothing, or one of its own operations. -/
theorem agentStep_unit {a : Agent} (ha : a ≠ .host) (s : State) :
    agentStep a s = .next s ∨ ∃ i, agentOf i = a ∧ agentStep a s = exec i s := by
  rcases fetch_unit ha s with h | ⟨t, i, h, hd, hi⟩
  · exact .inl (by simp [agentStep, h])
  · exact .inr ⟨i, hi, by simp [agentStep, h, hd, hi, issue_unit ha]⟩

/-- Where IDLE is 1, a unit's turn changes nothing (R37). -/
theorem agentStep_of_idle {s : State} (h : s.idle = true) {a : Agent} (ha : a ≠ .host) : agentStep a s = .next s := by
  rcases agentStep_unit ha s with hn | ⟨i, rfl, he⟩
  · exact hn
  · have hg : guard i s = false := (idle_iff s).mp h i (by simpa [isUnit] using ha)
    rw [he, exec_of_not_guard (admits_of_agentOf_ne_host ha s) hg]

/-- An idle state with input: SYNC is disabled and SI holds `End` (R37, R89). -/
def idleWithInput : State :=
  { State.reset with params := ⟨0, 0⟩, ports := { Ports.reset with si := [.endMark] } }

/-- Settles O47: IDLE is the disjunction of the unit guards, negated; a unit runs an operation whose guard is false. -/
theorem idleMeansNoUnitEnabled : Obligations.IdleMeansNoUnitEnabled := by
  refine ⟨fun s => ?_, idleWithInput, by decide, by decide⟩
  rw [getLsbD_status_idle]
  exact ⟨idle_iff s, fun h a ha => agentStep_of_idle h ha⟩

/-! ### CFG_ERR (R36) -/

theorem bsizeLegal_iff (s : State) :
    s.bsizeLegal = true ↔ 1 ≤ s.bsize.toNat ∧ s.bsize.toNat ≤ s.params.blockMax := by
  simp [State.bsizeLegal, Nat.one_le_iff_ne_zero, Nat.pos_iff_ne_zero]

/-- The formula of R36. -/
theorem cfgErr_iff (s : State) :
    s.cfgErr = true ↔ s.regs.ctrl.getLsbD 0 = true ∧ s.sync.state = .search
      ∧ ¬ (1 ≤ s.bsize.toNat ∧ s.bsize.toNat ≤ s.params.blockMax) := by
  rw [← bsizeLegal_iff]
  simp only [State.cfgErr, State.syncEn, Bool.and_eq_true, Bool.not_eq_true', beq_iff_eq, Bool.not_eq_true, and_assoc]

/-- A configuration error leaves SYNC inactive. -/
theorem syncActive_of_cfgErr {s : State} (h : s.cfgErr = true) : s.syncActive = false := by
  obtain ⟨-, hs, hb⟩ := (cfgErr_iff s).mp h
  rw [← bsizeLegal_iff, Bool.not_eq_true] at hb
  simp [State.syncActive, hs, hb]

/-- An inactive SYNC has no enabled operation (R150). -/
theorem guard_of_not_syncActive {s : State} (h : s.syncActive = false) {i : Instr} (hi : agentOf i = .sync) :
    guard i s = false := by
  cases i with
  | syncByte b => simp [guard, guardSyncByte, h]
  | syncEnd => simp [guard, guardSyncEnd, h]
  | syncIoErr => simp [guard, guardSyncIoErr, h]
  | _ => cases hi

/-- The write of BLOCK_SIZE stores bits 15:0 (R338). -/
theorem toNat_bsize_writeReg (s : State) (v : Word) : (s.writeReg 1#4 v).bsize.toNat = v.toNat % 65536 := by
  show (((v.extractLsb' 0 16).setWidth 32).extractLsb' 0 16).toNat = _
  simp

/-- The write of CTRL stores SYNC_EN (R338). -/
theorem syncEn_writeReg (s : State) (v : Word) : (s.writeReg 0#4 v).regs.ctrl.getLsbD 0 = v.getLsbD 0 := by
  show ((v.extractLsb' 0 3).setWidth 32).getLsbD 0 = _
  simp

/-- A legal BSIZE or SYNC_EN = 0 clears CFG_ERR. -/
theorem cfgErr_writeReg {s : State} {k : BitVec 4} {v : Word}
    (h : (k = 1#4 ∧ 1 ≤ v.toNat % 65536 ∧ v.toNat % 65536 ≤ s.params.blockMax) ∨ (k = 0#4 ∧ v.toNat % 2 = 0)) :
    (s.writeReg k v).cfgErr = false := by
  rw [Bool.eq_false_iff]
  intro hc
  obtain ⟨hen, -, hb⟩ := (cfgErr_iff _).mp hc
  rcases h with ⟨rfl, hv⟩ | ⟨rfl, hv⟩
  · exact hb ((toNat_bsize_writeReg s v).symm ▸ hv)
  · rw [syncEn_writeReg, BitVec.getLsbD, Nat.testBit_zero, hv] at hen
    cases hen

/-- Settles O48: the formula of R36, the stall by R150, and the two writes that make the formula false. -/
theorem cfgErrStallsSync : Obligations.CfgErrStallsSync := by
  intro s
  simp only [getLsbD_status_cfgErr]
  refine ⟨cfgErr_iff s, fun h i hi => guard_of_not_syncActive (syncActive_of_cfgErr h) hi, fun v t h => ?_⟩
  rcases h with ⟨h1, h2, he⟩ | ⟨hv, he⟩
  · obtain rfl : s.writeReg 1#4 v = t := Host.Outcome.next.inj he
    exact cfgErr_writeReg (.inl ⟨rfl, h1, h2⟩)
  · obtain rfl : s.writeReg 0#4 v = t := Host.Outcome.next.inj he
    exact cfgErr_writeReg (.inr ⟨rfl, hv⟩)

end Sys2Proof.Machine
end

section
/-! PROOFS, a unit's step as a change of the state: the unit takes the head of its own input port, appends to its own
output ports, counts in its own counters and replaces its own internal state (R370), and what it does depends on
nothing else. From that follow that the steps of two units commute (O49) and that the ports are FIFO (O46). -/

namespace Sys2Proof.Machine

/-! ### What a unit's step adds to the registers (R38, R39, R360) -/

/-- The registers with the counters of `d` added and the sticky bits of `d` raised; the configuration of `d` is not
read. -/
def Regs.plus (r d : Regs) : Regs :=
  { r with
    sticky := r.sticky ||| d.sticky
    streamPos := r.streamPos + d.streamPos
    asmCount := r.asmCount + d.asmCount
    blockCount := r.blockCount + d.blockCount
    skipCount := r.skipCount + d.skipCount
    frameCount := r.frameCount + d.frameCount
    gapCount := r.gapCount + d.gapCount
    malformedCount := r.malformedCount + d.malformedCount
    tcCount := r.tcCount + d.tcCount }

@[simp] theorem Regs.plus_config (r d : Regs) : (r.plus d).config = r.config := rfl

@[simp] theorem Regs.plus_reset (r : Regs) : r.plus Regs.reset = r := by
  simp [Regs.plus, Regs.reset]

theorem Regs.plus_event (r : Regs) (e : Event) :
    r.plus { Regs.reset with sticky := e.bit } = { r with sticky := r.sticky ||| e.bit } := by
  simp [Regs.plus, Regs.reset]

/-- Counting and raising flags commute: the order of two steps does not show in the registers. -/
theorem Regs.plus_right_comm (r d e : Regs) : (r.plus d).plus e = (r.plus e).plus d := by
  simp only [Regs.plus, Regs.mk.injEq, true_and]
  refine ⟨?_, ?_, ?_, ?_, ?_, ?_, ?_, ?_, ?_⟩ <;> ac_rfl

/-! ### The change that a unit's step makes -/

/-- The change of one unit step. SYNC and PN carry the item they emit and whether it goes to the chained port (R151,
R207); FP carries a `Gap` item, if there is one, and the item after it (R232). -/
inductive Change where
  | sync (d : Regs) (u : SyncUnit) (chained : Bool) (x : Option BlockItem)
  | pn (chained : Bool) (x : BlockItem)
  | fp (d : Regs) (v : VcTable) (gap : Option FoItem) (x : FoItem)
  | tc (d : Regs) (x : ToItem)

/-- The unit whose change it is. -/
def Change.agent : Change → Agent
  | .sync .. => .sync
  | .pn .. => .pn
  | .fp .. => .fp
  | .tc .. => .tc

/-- The state after the change. -/
def Change.apply (c : Change) (s : State) : State :=
  match c with
  | .sync d u chained x =>
    { s with
      regs := s.regs.plus d
      sync := u
      ports := { s.ports with
        si := s.ports.si.tail
        bo := s.ports.bo ++ if chained then [] else x.toList
        pi := s.ports.pi ++ if chained then x.toList else [] } }
  | .pn chained x =>
    { s with
      ports := { s.ports with
        pi := s.ports.pi.tail
        po := s.ports.po ++ if chained then [] else [x]
        fi := s.ports.fi ++ if chained then [x] else [] } }
  | .fp d v gap x =>
    { s with
      regs := s.regs.plus d
      vc := v
      ports := { s.ports with fi := s.ports.fi.tail, fo := s.ports.fo ++ (gap.toList ++ [x]) } }
  | .tc d x =>
    { s with
      regs := s.regs.plus d
      ports := { s.ports with ti := s.ports.ti.tail, tout := s.ports.tout ++ [x] } }

@[simp] theorem Change.apply_params (c : Change) (s : State) : (c.apply s).params = s.params := by
  cases c <;> rfl

@[simp] theorem Change.apply_config (c : Change) (s : State) : (c.apply s).regs.config = s.regs.config := by
  cases c <;> rfl

/-- The input port of a unit holds an item. -/
def State.HasInput (s : State) : Agent → Prop
  | .host => True
  | .sync => s.ports.si ≠ []
  | .pn => s.ports.pi ≠ []
  | .fp => s.ports.fi ≠ []
  | .tc => s.ports.ti ≠ []

/-- Changes of two different units whose input ports hold items may be made in either order: they meet only at a port
that one unit reads and the other appends to, and there the item taken is not the one appended. -/
theorem Change.apply_comm (c d : Change) (s : State) (hne : c.agent ≠ d.agent)
    (hc : s.HasInput c.agent) (hd : s.HasInput d.agent) : d.apply (c.apply s) = c.apply (d.apply s) := by
  cases c <;> cases d
  case sync.sync | pn.pn | fp.fp | tc.tc => exact absurd rfl hne
  case sync.pn => simp [Change.apply, List.tail_append_of_ne_nil (show s.ports.pi ≠ [] from hd)]
  case pn.sync => simp [Change.apply, List.tail_append_of_ne_nil (show s.ports.pi ≠ [] from hc)]
  case pn.fp => simp [Change.apply, List.tail_append_of_ne_nil (show s.ports.fi ≠ [] from hd)]
  case fp.pn => simp [Change.apply, List.tail_append_of_ne_nil (show s.ports.fi ≠ [] from hc)]
  case sync.fp | sync.tc | pn.tc | fp.sync | fp.tc | tc.sync | tc.pn | tc.fp =>
    simp [Change.apply, Regs.plus_right_comm]

/-! ### What a unit reads -/

/-- To unit `a` the state `t` is as good as `s`: the parameters and the configuration are the same, and so are the
unit's own state and the head of its input port; its output ports have no less room. -/
structure SameFor (a : Agent) (s t : State) : Prop where
  params : t.params = s.params
  config : t.regs.config = s.regs.config
  sync : a = .sync → t.sync = s.sync
  si : a = .sync → t.ports.si = s.ports.si
  bo : a = .sync → t.ports.bo.length ≤ s.ports.bo.length
  pi : a = .sync → t.ports.pi.length ≤ s.ports.pi.length
  piHead : a = .pn → t.ports.pi.head? = s.ports.pi.head?
  po : a = .pn → t.ports.po.length ≤ s.ports.po.length
  fi : a = .pn → t.ports.fi.length ≤ s.ports.fi.length
  vc : a = .fp → t.vc = s.vc
  fiHead : a = .fp → t.ports.fi.head? = s.ports.fi.head?
  fo : a = .fp → t.ports.fo = s.ports.fo
  ti : a = .tc → t.ports.ti = s.ports.ti
  tout : a = .tc → t.ports.tout = s.ports.tout

theorem SameFor.refl (a : Agent) (s : State) : SameFor a s s := by
  constructor <;> simp

/-- Another unit's change takes nothing away from what a unit reads. -/
theorem Change.sameFor_apply (c : Change) {a : Agent} {s : State} (hne : c.agent ≠ a) (ha : s.HasInput a) :
    SameFor a s (c.apply s) := by
  have head {q r : List BlockItem} (h : q ≠ []) : (q ++ r).head? = q.head? := List.head?_append_of_ne_nil q h
  have hpi : a = .pn → s.ports.pi ≠ [] := by rintro rfl; exact ha
  have hfi : a = .fp → s.ports.fi ≠ [] := by rintro rfl; exact ha
  have taken (q : List BlockItem) : q.tail.length ≤ q.length := length_tail_le le_rfl
  have own {p : Prop} (h : a = c.agent) : p := absurd h.symm hne
  have same := SameFor.refl a s
  cases c with
  | sync =>
    exact { same with
      config := rfl, sync := own, si := own, bo := own, pi := own, piHead := fun h => head (hpi h) }
  | pn =>
    exact { same with
      piHead := own, po := own, fi := own, pi := fun _ => taken _, fiHead := fun h => head (hfi h) }
  | fp => exact { same with config := rfl, vc := own, fiHead := own, fo := own, fi := fun _ => taken _ }
  | tc => exact { same with config := rfl, ti := own, tout := own }

/-- The fields of the configuration that units read (R31 to R34). -/
structure SameFields (s t : State) : Prop where
  syncEn : t.syncEn = s.syncEn
  chainPn : t.chainPn = s.chainPn
  chainFp : t.chainFp = s.chainFp
  bsize : t.bsize = s.bsize
  mo : t.mo = s.mo
  tl : t.tl = s.tl

theorem sameFields_of_config {s t : State} (h : t.regs.config = s.regs.config) : SameFields s t := by
  simp only [Regs.config, Prod.mk.injEq] at h
  obtain ⟨hctrl, hsize, hmo, htl⟩ := h
  constructor <;> simp only [State.syncEn, State.chainPn, State.chainFp, State.bsize, State.mo, State.tl, hctrl, hsize,
    hmo, htl]

theorem SameFor.fields {a : Agent} {s t : State} (h : SameFor a s t) : SameFields s t :=
  sameFields_of_config h.config

/-! ### An enabled unit stays enabled -/

theorem room_of_length_le {α : Type} {s t : State} {q r : List α} {n : Nat} (hp : t.params = s.params)
    (hl : r.length ≤ q.length) (h : s.room q n = true) : t.room r n = true := by
  rw [State.room_iff] at h ⊢
  rw [hp]
  omega

theorem SameFor.room_syncOut {s t : State} (h : SameFor .sync s t) (hr : s.room s.syncOut 1 = true) :
    t.room t.syncOut 1 = true := by
  refine room_of_length_le h.params ?_ hr
  rw [State.syncOut, State.syncOut, h.fields.chainPn]
  split
  · exact h.pi rfl
  · exact h.bo rfl

theorem SameFor.room_pnOut {s t : State} (h : SameFor .pn s t) (hr : s.room s.pnOut 1 = true) :
    t.room t.pnOut 1 = true := by
  refine room_of_length_le h.params ?_ hr
  rw [State.pnOut, State.pnOut, h.fields.chainFp]
  split
  · exact h.fi rfl
  · exact h.po rfl

theorem SameFor.syncActive {s t : State} (h : SameFor .sync s t) : t.syncActive = s.syncActive := by
  simp [State.syncActive, State.bsizeLegal, h.fields.syncEn, h.fields.bsize, h.params, h.sync rfl, h.si rfl]

/-- SYNC is active and its head item is `x`, as before. -/
theorem SameFor.syncHead {s t : State} (h : SameFor .sync s t) (x : SiItem)
    (hs : (s.syncActive && s.ports.si.head? == some x) = true) :
    (t.syncActive && t.ports.si.head? == some x) = true := by
  rwa [h.syncActive, h.si rfl]

/-- The conjunction of two guards is kept where each of them is. -/
theorem and_eq_true_imp {a a' b b' : Bool} (ha : a = true → a' = true) (hb : b = true → b' = true)
    (h : (a && b) = true) : (a' && b') = true :=
  Bool.and_eq_true_iff.mpr ((Bool.and_eq_true_iff.mp h).imp ha hb)

/-- An enabled unit operation stays enabled where its unit reads the same. -/
theorem guard_of_sameFor {i : Instr} {s t : State} (hu : isUnit i = true) (h : SameFor (agentOf i) s t)
    (hg : guard i s = true) : guard i t = true := by
  cases i with
  | syncByte b =>
    refine and_eq_true_imp (SameFor.syncHead h (.byte b)) (fun hr => ?_) hg
    have hroom := SameFor.room_syncOut h
    rw [State.completesBlock, h.sync rfl, ← State.completesBlock]
    cases hc : s.completesBlock <;> simp_all
  | syncEnd => exact and_eq_true_imp (SameFor.syncHead h .endMark) (SameFor.room_syncOut h) hg
  | syncIoErr => exact and_eq_true_imp (SameFor.syncHead h .ioErr) (SameFor.room_syncOut h) hg
  | pnData | pnEnd | pnIoErr => exact and_eq_true_imp (h.piHead rfl ▸ id) (SameFor.room_pnOut h) hg
  | fpData | fpEnd | fpIoErr =>
    exact and_eq_true_imp (h.fiHead rfl ▸ id) (room_of_length_le h.params (h.fo rfl ▸ le_rfl)) hg
  | tcDecode => exact and_eq_true_imp (h.ti rfl ▸ id) (room_of_length_le h.params (h.tout rfl ▸ le_rfl)) hg
  | _ => cases hu

/-- A unit operation is enabled only where the unit's input port holds an item. -/
theorem hasInput_of_guard {i : Instr} {s : State} (hu : isUnit i = true) (hg : guard i s = true) :
    s.HasInput (agentOf i) := by
  cases i with
  | syncByte | syncEnd | syncIoErr =>
    rintro (h : s.ports.si = [])
    simp [guard, guardSyncByte, guardSyncEnd, guardSyncIoErr, h] at hg
  | pnData | pnEnd | pnIoErr =>
    rintro (h : s.ports.pi = [])
    simp [guard, guardPnData, guardPnEnd, guardPnIoErr, h] at hg
  | fpData | fpEnd | fpIoErr =>
    rintro (h : s.ports.fi = [])
    simp [guard, guardFpData, guardFpEnd, guardFpIoErr, h] at hg
  | tcDecode =>
    rintro (h : s.ports.ti = [])
    simp [guard, guardTcDecode, h] at hg
  | _ => cases hu

/-! ### A change in terms of the model's pushes and pops -/

theorem pushSyncOut_setSync (s : State) (u : SyncUnit) (x : BlockItem) :
    (s.setSync u).pushSyncOut x = (s.pushSyncOut x).setSync u :=
  (apply_ite (State.setSync · u) (s.chainPn = true) (s.pushPi x) (s.pushBo x)).symm

theorem pushSyncOut_setRegs (s : State) {r : Regs} (h : r.config = s.regs.config) (x : BlockItem) :
    (s.setRegs r).pushSyncOut x = (s.pushSyncOut x).setRegs r := by
  have hc : (s.setRegs r).chainPn = s.chainPn := (sameFields_of_config h).chainPn
  rw [State.pushSyncOut, State.pushSyncOut, hc]
  exact (apply_ite (State.setRegs · r) (s.chainPn = true) (s.pushPi x) (s.pushBo x)).symm

/-- SYNC's change without an item. -/
theorem Change.apply_sync_none (t : State) (d : Regs) (u : SyncUnit) (b : Bool) :
    (Change.sync d u b none).apply t = (t.popSi.setSync u).setRegs (t.regs.plus d) := by
  cases b <;> simp [Change.apply] <;> rfl

/-- SYNC's change with an item, which goes to its output port (R151). -/
theorem Change.apply_sync_some (t : State) (d : Regs) (u : SyncUnit) (x : BlockItem) :
    (Change.sync d u t.chainPn (some x)).apply t
      = ((t.popSi.pushSyncOut x).setSync u).setRegs (t.regs.plus d) := by
  have hpop : t.popSi.chainPn = t.chainPn := rfl
  cases h : t.chainPn with
  | true => rw [pushSyncOut_chained _ (hpop.trans h)]; simp [Change.apply]; rfl
  | false => rw [pushSyncOut_unchained _ (hpop.trans h)]; simp [Change.apply]; rfl

/-- PN's change: the item goes to its output port (R207). -/
theorem Change.apply_pn (t : State) (x : BlockItem) : (Change.pn t.chainFp x).apply t = t.popPi.pushPnOut x := by
  have hpop : t.popPi.chainFp = t.chainFp := rfl
  cases h : t.chainFp with
  | true => rw [pushPnOut_chained _ (hpop.trans h)]; simp [Change.apply]; rfl
  | false => rw [pushPnOut_unchained _ (hpop.trans h)]; simp [Change.apply]; rfl

/-- FP's change without a `Gap` item (R232). -/
theorem Change.apply_fp_none (t : State) (d : Regs) (v : VcTable) (x : FoItem) :
    (Change.fp d v none x).apply t = ((t.popFi.pushFo x).setVc v).setRegs (t.regs.plus d) := rfl

/-- FP's change with a `Gap` item, which goes to FO first (R232). -/
theorem Change.apply_fp_some (t : State) (d : Regs) (v : VcTable) (g x : FoItem) :
    (Change.fp d v (some g) x).apply t
      = (((t.popFi.pushFo g).pushFo x).setVc v).setRegs (t.regs.plus d) := by
  simp [Change.apply, State.pushFo]; rfl

/-! ### The change of each operation: one and the same wherever its unit reads the same -/

/-- The byte `b` in SEARCH (R152). -/
theorem syncByteBody_change_search {s : State} (b : Byte) (hst : s.sync.state = .search) :
    ∃ c : Change, c.agent = .sync ∧ ∀ t, SameFor .sync s t → t.syncByteBody b = c.apply t := by
  have hbody {t : State} (h : SameFor .sync s t) : t.syncByteBody b = t.popSi.bumpStreamPos.searchByte b :=
    syncByteBody_search t b (h.sync rfl ▸ hst)
  have hwin {t : State} (h : SameFor .sync s t) : t.popSi.bumpStreamPos.nextWin b = s.nextWin b := by
    simp [State.nextWin, h.sync rfl]
  by_cases hw : s.nextWin b = asm
  · refine ⟨.sync { Regs.reset with streamPos := 1#32, skipCount := s.skipped, asmCount := 1#32 }
      ⟨.collect, [], [], s.bsize⟩ false none, rfl, fun t h => ?_⟩
    have hb : t.popSi.bumpStreamPos.bsize = s.bsize := h.fields.bsize
    rw [hbody h, searchByte_eq, hwin h, if_pos hw, Change.apply_sync_none, hb]
    simp [State.skipped, h.sync rfl, Regs.plus, Regs.reset]
    rfl
  · refine ⟨.sync { Regs.reset with streamPos := 1#32, skipCount := s.skipped }
      { s.sync with win := s.nextWin b } false none, rfl, fun t h => ?_⟩
    rw [hbody h, searchByte_eq, hwin h, if_neg hw, Change.apply_sync_none]
    simp [State.skipped, h.sync rfl, Regs.plus, Regs.reset]
    rfl

/-- The byte `b` in COLLECT (R152). -/
theorem syncByteBody_change_collect {s : State} (b : Byte) (hst : s.sync.state = .collect) :
    ∃ c : Change, c.agent = .sync ∧ ∀ t, SameFor .sync s t → t.syncByteBody b = c.apply t := by
  have hbody {t : State} (h : SameFor .sync s t) : t.syncByteBody b = t.popSi.bumpStreamPos.collectByte b :=
    syncByteBody_collect t b (h.sync rfl ▸ hst)
  by_cases hl : s.sync.buf.length + 1 = s.sync.curBsize.toNat
  · refine ⟨.sync { Regs.reset with streamPos := 1#32, blockCount := 1#32 }
      { s.sync with buf := [], state := .search } s.chainPn (some (.data (s.sync.buf ++ [b]))), rfl, fun t h => ?_⟩
    have hpush (x : BlockItem) : t.popSi.bumpStreamPos.pushSyncOut x =
        (t.popSi.pushSyncOut x).setRegs t.popSi.bumpStreamPos.regs :=
      pushSyncOut_setRegs t.popSi (r := t.popSi.bumpStreamPos.regs) rfl x
    rw [hbody h, collectByte_eq, ← h.fields.chainPn, Change.apply_sync_some]
    simp [h.sync rfl, hl, hpush, Regs.plus, Regs.reset, State.bumpBlock]
    rfl
  · refine ⟨.sync { Regs.reset with streamPos := 1#32 } { s.sync with buf := s.sync.buf ++ [b] } false none, rfl,
      fun t h => ?_⟩
    rw [hbody h, collectByte_eq, Change.apply_sync_none]
    simp [h.sync rfl, hl, Regs.plus, Regs.reset]
    rfl

/-- SYNC.END (R153). -/
theorem syncEndBody_change {s t : State} (h : SameFor .sync s t) :
    t.syncEndBody =
      (Change.sync { Regs.reset with sticky := if s.sync.state = .collect then Event.trunc.bit else 0#6 }
        { s.sync with buf := [], win := [], state := .done } s.chainPn (some .endMark)).apply t := by
  rw [← h.fields.chainPn, Change.apply_sync_some, syncEndBody_eq, pushSyncOut_setSync, pushSyncOut_setRegs, h.sync rfl]
  · split <;> simp [Regs.plus, Regs.reset] <;> rfl
  · split <;> rfl

/-- SYNC.IOERR (R154). -/
theorem syncIoErrBody_change {s t : State} (h : SameFor .sync s t) :
    t.syncIoErrBody =
      (Change.sync { Regs.reset with sticky := Event.ioErr.bit }
        { s.sync with buf := [], win := [], state := .failed } s.chainPn (some .ioErr)).apply t := by
  rw [← h.fields.chainPn, Change.apply_sync_some, Regs.plus_event, ← h.sync rfl, ← pushSyncOut_setSync,
    ← pushSyncOut_setRegs]
  · rfl
  · rfl

/-- A counter that makes no gap is not reported (R232). -/
theorem reportGap_of_isGap_false (s : State) {B : List Byte} {last : Option (BitVec 24)}
    (h : isGap last (frameCounter B) = false) : s.reportGap B last = s := by
  rcases reportGap_cases s B last with hr | ⟨l, rfl, hg, -⟩
  · exact hr
  · rw [h] at hg; cases hg

/-- A counter that makes a gap is reported, by the same item from every state (R232). -/
theorem reportGap_of_isGap {B : List Byte} {last : Option (BitVec 24)} (h : isGap last (frameCounter B) = true) :
    ∃ l, ∀ t : State, t.reportGap B last = ((t.pushFo (.gap (gapRecord B l))).raiseEvent .gap).bumpGap := by
  cases last with
  | none => cases h
  | some l => exact ⟨l, fun t => if_pos h⟩

/-- A well-formed frame, with a gap before it or without (R232). -/
theorem goodFrame_change (s : State) (B : List Byte) (mo tl : Nat) :
    ∃ c : Change, c.agent = .fp ∧ ∀ t, SameFor .fp s t → t.popFi.goodFrame B mo tl = c.apply t := by
  cases hg : isGap (s.vc.last (frameKey B)) (frameCounter B) with
  | false =>
    refine ⟨.fp { Regs.reset with frameCount := 1#32 } (s.vc.record (frameKey B) (frameCounter B)) none
      (.frame (frameRecord B mo tl (s.vc.last (frameKey B)))), rfl, fun t h => ?_⟩
    rw [Change.apply_fp_none, State.goodFrame, popFi_vc, h.vc rfl, reportGap_of_isGap_false _ hg]
    simp [Regs.plus, Regs.reset, h.vc rfl]
    rfl
  | true =>
    obtain ⟨l, hl⟩ := reportGap_of_isGap hg
    refine ⟨.fp { Regs.reset with sticky := Event.gap.bit, gapCount := 1#32, frameCount := 1#32 }
      (s.vc.record (frameKey B) (frameCounter B)) (some (.gap (gapRecord B l)))
      (.frame (frameRecord B mo tl (s.vc.last (frameKey B)))), rfl, fun t h => ?_⟩
    rw [Change.apply_fp_some, State.goodFrame, popFi_vc, h.vc rfl, hl]
    simp [Regs.plus, Regs.reset, h.vc rfl]
    rfl

/-- A frame, malformed or well-formed (R231, R232). -/
theorem parseFrame_change (s : State) (B : List Byte) :
    ∃ c : Change, c.agent = .fp ∧ ∀ t, SameFor .fp s t → t.popFi.parseFrame B = c.apply t := by
  have hmo {t : State} (h : SameFor .fp s t) : t.popFi.mo = s.mo := h.fields.mo
  have htl {t : State} (h : SameFor .fp s t) : t.popFi.tl = s.tl := h.fields.tl
  cases hf : frameFailure B s.mo.toNat s.tl.toNat with
  | some r =>
    refine ⟨.fp { Regs.reset with sticky := Event.malformed.bit, malformedCount := 1#32 } s.vc none
      (.malformed r.code (BitVec.ofNat 16 B.length)), rfl, fun t h => ?_⟩
    rw [Change.apply_fp_none, ← h.vc rfl, State.parseFrame, hmo h, htl h, hf]
    simp [State.malformedFrame, Regs.plus, Regs.reset]
    rfl
  | none =>
    obtain ⟨c, hc, hgood⟩ := goodFrame_change s B s.mo.toNat s.tl.toNat
    refine ⟨c, hc, fun t h => ?_⟩
    rw [← hgood t h, State.parseFrame, hmo h, htl h, hf]

/-- FP.DATA (R232). -/
theorem fpDataBody_change {s : State} (hg : guardFpData s = true) :
    ∃ c : Change, c.agent = .fp ∧ ∀ t, SameFor .fp s t → t.fpDataBody = c.apply t := by
  obtain ⟨B, q, hq, -⟩ := fpDataBody_of_guard s hg
  obtain ⟨c, hc, hparse⟩ := parseFrame_change s B
  refine ⟨c, hc, fun t h => ?_⟩
  obtain ⟨r, hr⟩ := List.head?_eq_some_iff.mp ((h.fiHead rfl).trans (congrArg List.head? hq))
  rw [← hparse t h, State.fpDataBody, hr]

/-- TC.DECODE (R280). -/
theorem tcDecodeBody_change {s : State} (hg : guardTcDecode s = true) :
    ∃ c : Change, c.agent = .tc ∧ ∀ t, SameFor .tc s t → t.tcDecodeBody = c.apply t := by
  obtain ⟨B, q, hq, -⟩ := tcDecodeBody_of_guard s hg
  have hbody {t : State} (h : SameFor .tc s t) : t.tcDecodeBody = t.popTi.convertTime B := by
    rw [State.tcDecodeBody, h.ti rfl, hq]
  by_cases hlen : B.length < tcLen
  · refine ⟨.tc { Regs.reset with sticky := Event.tcErr.bit } (.tcErr (BitVec.ofNat 4 B.length)), rfl, fun t h => ?_⟩
    rw [hbody h, State.convertTime, if_pos hlen, Change.apply, Regs.plus_event]
    rfl
  · refine ⟨.tc { Regs.reset with tcCount := 1#32 } (.time (timeRecord B)), rfl, fun t h => ?_⟩
    rw [hbody h, State.convertTime, if_neg hlen, Change.apply]
    simp [Regs.plus, Regs.reset]
    rfl

/-- PN passes `x` on (R207). -/
theorem pnStep_change {s t : State} (x : BlockItem) (h : SameFor .pn s t) :
    t.popPi.pushPnOut x = (Change.pn s.chainFp x).apply t := by
  rw [← h.fields.chainFp, Change.apply_pn]

/-- PN.DATA (R203). -/
theorem pnDataBody_change {s : State} (hg : guardPnData s = true) :
    ∃ c : Change, c.agent = .pn ∧ ∀ t, SameFor .pn s t → t.pnDataBody = c.apply t := by
  obtain ⟨B, q, hq, -⟩ := pnDataBody_of_guard s hg
  refine ⟨.pn s.chainFp (.data (pn B)), rfl, fun t h => ?_⟩
  obtain ⟨r, hr⟩ := List.head?_eq_some_iff.mp ((h.piHead rfl).trans (congrArg List.head? hq))
  rw [State.pnDataBody, hr, ← pnStep_change _ h]

/-- FP passes `x` on (R237, R238). -/
theorem fpStep_change {s t : State} (x : FoItem) (h : SameFor .fp s t) :
    t.popFi.pushFo x = (Change.fp Regs.reset s.vc none x).apply t := by
  rw [Change.apply_fp_none, ← h.vc rfl, Regs.plus_reset]
  rfl

/-- An enabled unit operation makes one change, wherever its unit reads the same. -/
theorem effect_change {i : Instr} {s : State} (hu : isUnit i = true) (hg : guard i s = true) :
    ∃ c : Change, c.agent = agentOf i ∧ ∀ t, SameFor (agentOf i) s t → effect i t = c.apply t := by
  cases i with
  | syncByte b =>
    rcases syncActive_cases s (syncActive_of_guardSyncByte s hg) with ⟨hst, -⟩ | hst
    · exact syncByteBody_change_search b hst
    · exact syncByteBody_change_collect b hst
  | syncEnd => exact ⟨_, rfl, fun t h => syncEndBody_change h⟩
  | syncIoErr => exact ⟨_, rfl, fun t h => syncIoErrBody_change h⟩
  | pnData => exact pnDataBody_change hg
  | pnEnd => exact ⟨_, rfl, fun t h => pnStep_change .endMark h⟩
  | pnIoErr => exact ⟨_, rfl, fun t h => pnStep_change .ioErr h⟩
  | fpData => exact fpDataBody_change hg
  | fpEnd => exact ⟨_, rfl, fun t h => fpStep_change .endMark h⟩
  | fpIoErr => exact ⟨_, rfl, fun t h => fpStep_change .ioErr h⟩
  | tcDecode => exact tcDecodeBody_change hg
  | _ => cases hu

/-- An enabled unit operation runs as its effect. -/
theorem exec_unit {i : Instr} {s : State} (hu : isUnit i = true) (hg : guard i s = true) :
    exec i s = .next (effect i s) :=
  exec_of_guard (admits_of_agentOf_ne_host (by simpa [isUnit] using hu) s) hg

/-- Settles O49: each unit reads after the other's change what it read before, so it makes the same change, and the
two changes commute. -/
theorem unitStepsCommute : Obligations.UnitStepsCommute := by
  intro s i j hi hj hne hgi hgj
  obtain ⟨c, hc, hci⟩ := effect_change hi hgi
  obtain ⟨d, hd, hdj⟩ := effect_change hj hgj
  have hpi : s.HasInput (agentOf i) := hasInput_of_guard hi hgi
  have hpj : s.HasInput (agentOf j) := hasInput_of_guard hj hgj
  have hsi : SameFor (agentOf i) s (d.apply s) := d.sameFor_apply (hd ▸ hne.symm) hpi
  have hsj : SameFor (agentOf j) s (c.apply s) := c.sameFor_apply (hc ▸ hne) hpj
  have hgi' : guard i (d.apply s) = true := guard_of_sameFor hi hsi hgi
  have hgj' : guard j (c.apply s) = true := guard_of_sameFor hj hsj hgj
  have hcomm : d.apply (c.apply s) = c.apply (d.apply s) :=
    c.apply_comm d s (by rwa [hc, hd]) (hc ▸ hpi) (hd ▸ hpj)
  refine ⟨c.apply s, d.apply s, d.apply (c.apply s), ?_, ?_, hgj', hgi', ?_, ?_⟩
  · rw [exec_unit hi hgi, hci s (.refl _ s)]
  · rw [exec_unit hj hgj, hdj s (.refl _ s)]
  · rw [exec_unit hj hgj', hdj _ hsj]
  · rw [exec_unit hi hgi', hci _ hsi, hcomm]

/-! ### FIFO (R84 (a)) -/

theorem fifoStep_append {α : Type} (q xs : List α) (h : xs.length ≤ 2) : FifoStep q (q ++ xs) := ⟨xs, h, .inl rfl⟩

theorem fifoStep_tail {α : Type} (q : List α) : FifoStep q q.tail := ⟨[], by simp, .inr (by simp)⟩

theorem fifoStep_refl {α : Type} (q : List α) : FifoStep q q := ⟨[], by simp, .inl (by simp)⟩

theorem ports_fifoStep_refl (p : Ports) : p.FifoStep p := by
  constructor <;> exact fifoStep_refl _

/-- A unit's change takes one item and appends at most two to a port. -/
theorem Change.fifoStep_apply (c : Change) (s : State) : s.ports.FifoStep (c.apply s).ports := by
  have one {α : Type} (q : List α) (x : Option α) : FifoStep q (q ++ x.toList) :=
    fifoStep_append q _ (by cases x <;> simp)
  cases c with
  | sync d u chained x =>
    cases chained with
    | true => exact { ports_fifoStep_refl _ with si := fifoStep_tail _, bo := one _ none, pi := one _ x }
    | false => exact { ports_fifoStep_refl _ with si := fifoStep_tail _, bo := one _ x, pi := one _ none }
  | pn chained x =>
    cases chained with
    | true => exact { ports_fifoStep_refl _ with pi := fifoStep_tail _, po := one _ none, fi := one _ (some x) }
    | false => exact { ports_fifoStep_refl _ with pi := fifoStep_tail _, po := one _ (some x), fi := one _ none }
  | fp d v gap x =>
    exact { ports_fifoStep_refl _ with
      fi := fifoStep_tail _
      fo := fifoStep_append _ _ (by cases gap <;> simp) }
  | tc d x => exact { ports_fifoStep_refl _ with ti := fifoStep_tail _, tout := one _ (some x) }

/-- A register write leaves the ports alone, but for the one that is CMD.SOFT_RESET (R338, R342). -/
theorem writeReg_ports {k : BitVec 4} {v : Word} (s : State) (h : Instr.regWr k v ≠ .regWr 15#4 3#32) :
    (s.writeReg k v).ports = s.ports := by
  rcases writeReg_cases s k v with ⟨r, hw, -⟩ | ⟨-, hw⟩ | ⟨rfl, hw⟩ <;> rw [hw]
  · rfl
  · rfl
  · rcases command_cases s v with ⟨-, hc⟩ | ⟨-, hc⟩ | ⟨-, hc⟩ | ⟨rfl, -⟩ | ⟨-, hc⟩
    · rw [hc]
    · rw [hc]; rfl
    · rw [hc]; rfl
    · exact absurd rfl h
    · rw [hc]; rfl

/-- A host transaction other than a reset pushes one item, pops one, or leaves the ports alone (R321). -/
theorem effect_host_fifoStep {i : Instr} (s : State) (hi : agentOf i = .host) (hr : i ≠ .cmdSoftReset)
    (hw : i ≠ .regWr 15#4 3#32) : s.ports.FifoStep (effect i s).ports := by
  have push {α : Type} (q : List α) (x : α) : FifoStep q (q ++ [x]) := fifoStep_append q [x] (by simp)
  cases i with
  | pushSiByte | pushSiEnd | pushSiIoErr => exact { ports_fifoStep_refl _ with si := push _ _ }
  | pushPiData | pushPiEnd | pushPiIoErr => exact { ports_fifoStep_refl _ with pi := push _ _ }
  | pushFiData | pushFiEnd | pushFiIoErr => exact { ports_fifoStep_refl _ with fi := push _ _ }
  | pushTiTc => exact { ports_fifoStep_refl _ with ti := push _ _ }
  | popBo => exact { ports_fifoStep_refl _ with bo := fifoStep_tail _ }
  | popPo => exact { ports_fifoStep_refl _ with po := fifoStep_tail _ }
  | popFo => exact { ports_fifoStep_refl _ with fo := fifoStep_tail _ }
  | popTo => exact { ports_fifoStep_refl _ with tout := fifoStep_tail _ }
  | regRd | cmdNop | cmdSyncRestart | cmdVcClear => exact ports_fifoStep_refl _
  | regWr k v => exact (writeReg_ports s hw).symm ▸ ports_fifoStep_refl _
  | cmdSoftReset => exact absurd rfl hr
  | _ => cases hi

/-- Settles O46: a unit's operation is a change, and a host's pushes or pops at most one item. -/
theorem portsAreFifo : Obligations.PortsAreFifo := by
  intro i s t he hr hw
  rcases exec_eq_next he with rfl | ⟨-, hg, rfl⟩
  · exact ports_fifoStep_refl _
  · cases hu : isUnit i with
    | true =>
      obtain ⟨c, -, hc⟩ := effect_change hu hg
      rw [hc s (.refl _ s)]
      exact c.fifoStep_apply s
    | false => exact effect_host_fifoStep s (by simpa [isUnit] using hu) hr hw

end Sys2Proof.Machine
end

section
/-! PROOFS, whose turn it is (R84 (d)), and the turn of an agent with nothing before it (O9). -/

namespace Sys2Proof.Machine

theorem turn_of_no_schedule {s : State} (h : s.schedule = []) : s.turn = Config.freeAgent s.tick := by
  simp [State.turn, h]

theorem advance_of_no_schedule {s : State} (h : s.schedule = []) : s.advance = { s with tick := s.tick + 1 } := by
  simp [State.advance, h]

/-- An agent with nothing before it takes no step (R17). -/
theorem agentStep_of_fetch_none {a : Agent} {s : State} (h : fetch a s = none) : agentStep a s = .next s := by
  simp [agentStep, h]

/-- Settles O9: the turn is the head of the schedule, or the free value where the schedule is empty. -/
theorem anyAgentMayMove : Obligations.AnyAgentMayMove := by
  intro s a rest
  refine ⟨?_, fun h => ?_, agentStep_of_fetch_none⟩
  · rw [step, turn_of_schedule _ rfl, advance_of_schedule _ rfl]
  · rw [step, turn_of_no_schedule h, advance_of_no_schedule h]

end Sys2Proof.Machine
end

section
/-! PROOFS, the opcode map (R103): its rows exclude each other, so that the decoder answers with whichever row hits;
what each row reads of a transaction; and that the encoder and the decoder agree (O1 to O6). -/

namespace Sys2Proof

/-! ### The rows exclude each other (R103) -/

/-- Two rows of the map differ at a bit that both of them look at. -/
theorem opcodeTable_pairwise :
    opcodeTable.Pairwise (fun r r' => r.pat &&& r'.mask ≠ r'.pat &&& r.mask) := by
  decide

/-- Rows that hit one descriptor agree at the bits that both of them look at. -/
theorem OpcodeRow.pat_and_mask_of_hits {d : BitVec 24} {r r' : OpcodeRow} (h : r.hits d = true)
    (h' : r'.hits d = true) : r.pat &&& r'.mask = r'.pat &&& r.mask := by
  simp only [OpcodeRow.hits, beq_iff_eq] at h h'
  rw [← h, ← h', BitVec.and_assoc, BitVec.and_assoc, BitVec.and_comm r.mask]

/-- Settles O3: two rows that hit a descriptor would agree where the map says that they differ. -/
theorem atMostOneRowMatches : Obligations.AtMostOneRowMatches := by
  intro d
  have hp : (opcodeTable.filter (OpcodeRow.hits d)).Pairwise fun _ _ => False :=
    List.pairwise_filter.mpr
      (opcodeTable_pairwise.imp fun hne h h' => hne (OpcodeRow.pat_and_mask_of_hits h h'))
  match opcodeTable.filter (OpcodeRow.hits d), hp with
  | [], _ => exact Nat.zero_le 1
  | [_], _ => exact Nat.le_refl 1
  | _ :: b :: _, hp => exact ((List.pairwise_cons.mp hp).1 b List.mem_cons_self).elim

/-- The decoder answers with whichever row hits. -/
theorem decode_of_hits {t : Transaction} {r : OpcodeRow} (hr : r ∈ opcodeTable) (h : r.hits t.desc = true) :
    decode t = .ok (r.build t) := by
  have hmem : r ∈ opcodeTable.filter (OpcodeRow.hits t.desc) := List.mem_filter.mpr ⟨hr, h⟩
  have hfind : opcodeTable.find? (OpcodeRow.hits t.desc) = some r := by
    rw [← List.head?_filter]
    match opcodeTable.filter (OpcodeRow.hits t.desc), hmem, atMostOneRowMatches t.desc with
    | [_], hmem, _ => rw [List.mem_singleton.mp hmem]; rfl
  simp only [decode, hfind]

/-- A descriptor that row `k` of the map hits, counted from 0, decodes by that row. -/
theorem decode_row (k : Fin 30) {d : BitVec 24} (h : (opcodeTable.get k).hits d = true) (v : Word) (B : List Byte) :
    decode ⟨d, v, B⟩ = .ok ((opcodeTable.get k).build ⟨d, v, B⟩) :=
  decode_of_hits (t := ⟨d, v, B⟩) (List.get_mem ..) h

/-! ### Which descriptors a row hits, by its mask (R103) -/

theorem toNat_append_add {m n : Nat} (x : BitVec m) (y : BitVec n) :
    (x ++ y).toNat = x.toNat * 2 ^ n + y.toNat := by
  rw [BitVec.toNat_append, ← Nat.shiftLeft_add_eq_or_of_lt y.isLt, Nat.shiftLeft_eq]

theorem append_zero_eq_ofNat {m n : Nat} (p : BitVec m) : p ++ 0#n = BitVec.ofNat (m + n) (p.toNat * 2 ^ n) := by
  have hlt : p.toNat * 2 ^ n < 2 ^ (m + n) := by
    rw [Nat.pow_add]
    exact Nat.mul_lt_mul_of_pos_right p.isLt (Nat.two_pow_pos n)
  rw [← BitVec.toNat_inj, toNat_append_add, BitVec.toNat_ofNat, BitVec.toNat_ofNat, Nat.zero_mod, Nat.add_zero,
    Nat.mod_eq_of_lt hlt]

theorem toNat_descSub (d : BitVec 24) : (descSub d).toNat = d.toNat % 256 := by
  simp [descSub]

theorem toNat_descIndex (d : BitVec 24) : (descIndex d).toNat = d.toNat % 16 := by
  simp [descIndex]

@[simp] theorem descSub_append (p : BitVec 16) (b : Byte) : descSub (p ++ b) = b := by
  rw [← BitVec.toNat_inj, toNat_descSub, toNat_append_add, Nat.mul_add_mod_of_lt b.isLt]

@[simp] theorem descIndex_append (p : BitVec 20) (k : BitVec 4) : descIndex (p ++ k) = k := by
  rw [← BitVec.toNat_inj, toNat_descIndex, toNat_append_add, Nat.mul_add_mod_of_lt k.isLt]

theorem hits_fullMask_iff {d p : BitVec 24} {f : Transaction → Instr} :
    OpcodeRow.hits d ⟨0xFFFFFF#24, p, f⟩ = true ↔ d = p := by
  rw [OpcodeRow.hits, beq_iff_eq, and_fullMask]

/-- A row with a byte field hits the descriptors that are its bits 23:8 and any byte. -/
theorem hits_byteMask_iff {d : BitVec 24} {p : BitVec 16} {f : Transaction → Instr} :
    OpcodeRow.hits d ⟨0xFFFF00#24, p ++ 0#8, f⟩ = true ↔ d = p ++ descSub d := by
  have hp : p ++ 0#8 = BitVec.ofNat 24 (p.toNat * 256) := append_zero_eq_ofNat p
  rw [OpcodeRow.hits, beq_iff_eq, hp, and_byteMask_eq_iff d _ p.isLt, ← BitVec.toNat_inj, toNat_append_add,
    toNat_descSub]
  omega

/-- A row with an index field hits the descriptors that are its bits 23:4 and any index. -/
theorem hits_indexMask_iff {d : BitVec 24} {p : BitVec 20} {f : Transaction → Instr} :
    OpcodeRow.hits d ⟨0xFFFFF0#24, p ++ 0#4, f⟩ = true ↔ d = p ++ descIndex d := by
  have hp : p ++ 0#4 = BitVec.ofNat 24 (p.toNat * 16) := append_zero_eq_ofNat p
  rw [OpcodeRow.hits, beq_iff_eq, hp, and_indexMask_eq_iff d _ p.isLt, ← BitVec.toNat_inj, toNat_append_add,
    toNat_descIndex]
  omega

/-! ### The rows with a field or an operand -/

theorem decode_pushSiByte (b : Byte) (v : Word) (B : List Byte) :
    decode ⟨0x0100#16 ++ b, v, B⟩ = .ok (.pushSiByte b) := by
  rw [decode_row 0 (hits_byteMask_iff (p := 0x0100#16).mpr (by rw [descSub_append]))]
  exact congrArg (fun u => Except.ok (Instr.pushSiByte u)) (descSub_append _ b)

theorem decode_syncByte (b : Byte) (v : Word) (B : List Byte) :
    decode ⟨0x0180#16 ++ b, v, B⟩ = .ok (.syncByte b) := by
  rw [decode_row 20 (hits_byteMask_iff (p := 0x0180#16).mpr (by rw [descSub_append]))]
  exact congrArg (fun u => Except.ok (Instr.syncByte u)) (descSub_append _ b)

theorem decode_regRd (k : BitVec 4) (v : Word) (B : List Byte) :
    decode ⟨0x10000#20 ++ k, v, B⟩ = .ok (.regRd k) := by
  rw [decode_row 14 (hits_indexMask_iff (p := 0x10000#20).mpr (by rw [descIndex_append]))]
  exact congrArg (fun u => Except.ok (Instr.regRd u)) (descIndex_append _ k)

theorem decode_regWr (k : BitVec 4) (v : Word) (B : List Byte) :
    decode ⟨0x10010#20 ++ k, v, B⟩ = .ok (decodeRegWr k v) := by
  rw [decode_row 15 (hits_indexMask_iff (p := 0x10010#20).mpr (by rw [descIndex_append]))]
  exact congrArg (fun u => Except.ok (decodeRegWr u v)) (descIndex_append _ k)

theorem decode_pushPiData (v : Word) (B : List Byte) : decode ⟨0x030000#24, v, B⟩ = .ok (.pushPiData B) :=
  decode_row 3 rfl v B

theorem decode_pushFiData (v : Word) (B : List Byte) : decode ⟨0x050000#24, v, B⟩ = .ok (.pushFiData B) :=
  decode_row 6 rfl v B

theorem decode_pushTiTc (v : Word) (B : List Byte) : decode ⟨0x070000#24, v, B⟩ = .ok (.pushTiTc B) :=
  decode_row 9 rfl v B

/-! ### Encoding with a register index (R100) -/

/-- A register index as SUB is the index after four zero bits. -/
theorem mkDesc_subOfIndex (p : BitVec 8) (a : Bool) (t : BitVec 7) (k : BitVec 4) :
    mkDesc p a t (subOfIndex k) = (p ++ BitVec.ofBool a ++ t ++ 0#4) ++ k := by
  rw [← BitVec.toNat_inj, Machine.toNat_mkDesc, subOfIndex]
  simp only [toNat_append_add, BitVec.toNat_ofBool, BitVec.toNat_ofNat]
  omega

theorem encode_regRd (k : BitVec 4) : encode (.regRd k) = ⟨0x10000#20 ++ k, 0#32, []⟩ := by
  rw [encode, hostDesc, mkDesc_subOfIndex]
  rfl

theorem encode_regWr (k : BitVec 4) (v : Word) : encode (.regWr k v) = ⟨0x10010#20 ++ k, v, []⟩ := by
  rw [encode, hostDesc, mkDesc_subOfIndex]
  rfl

/-! ### What an operation carries beside its descriptor (R100) -/

/-- The byte list of a DATA or TC push. -/
def Instr.bytes? : Instr → Option (List Byte)
  | .pushPiData B | .pushFiData B | .pushTiTc B => some B
  | _ => none

/-- The value of a register write. -/
def Instr.value? : Instr → Option Word
  | .regWr _ v => some v
  | _ => none

/-! ### A register write (R103, R112) -/

theorem decodeCommand_of_four_le {v : Word} (h : 4 ≤ v.toNat) : decodeCommand v = .regWr 15#4 v := by
  have hne (n : Nat) (hn : n < 4) : v ≠ BitVec.ofNat 32 n := by
    rintro rfl
    rw [BitVec.toNat_ofNat] at h
    omega
  rw [decodeCommand, if_neg (hne 0 (by decide)), if_neg (hne 1 (by decide)), if_neg (hne 2 (by decide)),
    if_neg (hne 3 (by decide))]

/-- A register write stays what it is, but for index 15 with a value that names a command. -/
theorem decodeRegWr_cases (k : BitVec 4) (v : Word) :
    decodeRegWr k v = .regWr k v
      ∨ (k = 15#4 ∧ v.toNat < 4 ∧ (encode (decodeRegWr k v)).desc.toNat = 0x110000 + v.toNat
          ∧ (decodeRegWr k v).bytes? = none ∧ (decodeRegWr k v).value? = none) := by
  by_cases hk : k = 15#4
  · subst hk
    rcases Nat.lt_or_ge v.toNat 4 with hv | hv
    · obtain ⟨n, hn, rfl⟩ : ∃ n, n < 4 ∧ v = BitVec.ofNat 32 n := ⟨v.toNat, hv, by simp⟩
      refine .inr ⟨rfl, hv, ?_⟩
      interval_cases n <;> decide
    · exact .inl ((if_pos rfl).trans (decodeCommand_of_four_le hv))
  · exact .inl (if_neg hk)

/-- Settles O5: the values 0 to 3 are the four commands, and from 4 on no value is one. -/
theorem writeToCmdDecodes : Obligations.WriteToCmdDecodes := by
  intro v B
  have hd : decode ⟨0x10010F#24, v, B⟩ = .ok (decodeCommand v) := decode_regWr 15#4 v B
  have hv {n : Nat} (h : v.toNat = n) : v = BitVec.ofNat 32 n := by simp [← h]
  rw [hd]
  refine ⟨fun h => ?_, fun h => ?_, fun h => ?_, fun h => ?_, fun h => ?_⟩
  · rw [hv h]; rfl
  · rw [hv h]; rfl
  · rw [hv h]; rfl
  · rw [hv h]; rfl
  · rw [decodeCommand_of_four_le h]

/-! ### Decoding what was encoded -/

/-- Settles O1: the encoder's word is one of the operation's row, which builds it again; a well-formed register write
names no command. -/
theorem decodeOfEncode : Obligations.DecodeOfEncode := by
  intro i hi
  cases i with
  | pushSiByte b => exact decode_pushSiByte b _ _
  | syncByte b => exact decode_syncByte b _ _
  | pushPiData B => exact decode_pushPiData _ B
  | pushFiData B => exact decode_pushFiData _ B
  | pushTiTc B => exact decode_pushTiTc _ B
  | regRd k => rw [encode_regRd, decode_regRd]
  | regWr k v =>
    rw [encode_regWr, decode_regWr]
    rcases decodeRegWr_cases k v with h | ⟨hk, hv, -⟩
    · rw [h]
    · simp [Instr.wf, namesCommand, hk, hv] at hi
  | _ => rfl

/-- Settles O6: each word is one of its row of the table. -/
theorem wordsOfTheTableDecode : Obligations.WordsOfTheTableDecode := by
  intro b k v B
  exact ⟨decode_pushSiByte b v B, decode_pushPiData v B, decode_row 12 rfl v B, decode_regRd k v B,
    decode_row 19 rfl v B, decode_syncByte b v B, decode_row 23 rfl v B, decode_row 28 rfl v B,
    decode_row 29 rfl v B⟩

/-! ### What a row reads of a transaction (R103) -/

/-- The rows by what they read: nothing but the descriptor's match, the byte list, the byte field, the index field,
or the index field and the value. -/
inductive OpcodeRow.Reads : OpcodeRow → Prop
  | nothing (i : Instr) (hB : i.bytes? = none) (hv : i.value? = none) :
      Reads ⟨0xFFFFFF#24, (encode i).desc, fun _ => i⟩
  | bytes (d : BitVec 24) (f : List Byte → Instr) (hd : d = 0x030000#24 ∨ d = 0x050000#24 ∨ d = 0x070000#24)
      (hf : ∀ B, (encode (f B)).desc = d ∧ (f B).bytes? = some B ∧ (f B).value? = none) :
      Reads ⟨0xFFFFFF#24, d, fun t => f t.bytes⟩
  | byte (p : BitVec 16) (f : Byte → Instr)
      (hf : ∀ b, (encode (f b)).desc = p ++ b ∧ (f b).bytes? = none ∧ (f b).value? = none) :
      Reads ⟨0xFFFF00#24, p ++ 0#8, fun t => f (descSub t.desc)⟩
  | index : Reads ⟨0xFFFFF0#24, 0x10000#20 ++ 0#4, fun t => .regRd (descIndex t.desc)⟩
  | indexAndValue : Reads ⟨0xFFFFF0#24, 0x10010#20 ++ 0#4, fun t => decodeRegWr (descIndex t.desc) t.value⟩

/-- The map, row by row. -/
theorem reads_of_mem_opcodeTable : ∀ r ∈ opcodeTable, r.Reads := by
  simp only [opcodeTable, hostRows, unitRows, List.cons_append, List.nil_append, List.forall_mem_cons]
  have fixed (i : Instr) (hB : i.bytes? = none := by rfl) (hv : i.value? = none := by rfl) :=
    OpcodeRow.Reads.nothing i hB hv
  exact ⟨.byte 0x0100#16 .pushSiByte fun _ => ⟨rfl, rfl, rfl⟩, fixed .pushSiEnd, fixed .pushSiIoErr,
    .bytes 0x030000#24 .pushPiData (.inl rfl) fun _ => ⟨rfl, rfl, rfl⟩, fixed .pushPiEnd, fixed .pushPiIoErr,
    .bytes 0x050000#24 .pushFiData (.inr (.inl rfl)) fun _ => ⟨rfl, rfl, rfl⟩, fixed .pushFiEnd, fixed .pushFiIoErr,
    .bytes 0x070000#24 .pushTiTc (.inr (.inr rfl)) fun _ => ⟨rfl, rfl, rfl⟩,
    fixed .popBo, fixed .popPo, fixed .popFo, fixed .popTo, .index, .indexAndValue,
    fixed .cmdNop, fixed .cmdSyncRestart, fixed .cmdVcClear, fixed .cmdSoftReset,
    .byte 0x0180#16 .syncByte fun _ => ⟨rfl, rfl, rfl⟩, fixed .syncEnd, fixed .syncIoErr,
    fixed .pnData, fixed .pnEnd, fixed .pnIoErr, fixed .fpData, fixed .fpEnd, fixed .fpIoErr, fixed .tcDecode,
    fun _ h => absurd h List.not_mem_nil⟩

section Reads
variable {r : OpcodeRow} (hr : r.Reads) (t : Transaction)
include hr

/-- A row builds an operation whose own descriptor is the one that the row hits, but for a command in the form of a
register write. -/
theorem encode_build_desc (h : r.hits t.desc = true) :
    (encode (r.build t)).desc = t.desc
      ∨ (t.desc = 0x10010F#24 ∧ t.value.toNat < 4 ∧ (encode (r.build t)).desc.toNat = 0x110000 + t.value.toNat) := by
  cases hr with
  | nothing i => exact .inl (hits_fullMask_iff.mp h).symm
  | bytes d f _ hf => exact .inl ((hf _).1.trans (hits_fullMask_iff.mp h).symm)
  | byte p f hf => exact .inl ((hf _).1.trans (hits_byteMask_iff.mp h).symm)
  | index => exact .inl ((congrArg Transaction.desc (encode_regRd _)).trans (hits_indexMask_iff.mp h).symm)
  | indexAndValue =>
    have hd := hits_indexMask_iff.mp h
    rcases decodeRegWr_cases (descIndex t.desc) t.value with hw | ⟨hk, hv, hn, -⟩
    · exact .inl ((congrArg (fun i => (encode i).desc) hw).trans
        ((congrArg Transaction.desc (encode_regWr _ _)).trans hd.symm))
    · exact .inr ⟨by rw [hd, hk]; rfl, hv, hn⟩

/-- The byte list of the operation is the one that travelled with the descriptor. -/
theorem bytes?_build : (r.build t).bytes? = none ∨ (r.build t).bytes? = some t.bytes := by
  cases hr with
  | nothing i hB => exact .inl hB
  | bytes d f _ hf => exact .inr (hf _).2.1
  | byte p f hf => exact .inl (hf _).2.1
  | index => exact .inl rfl
  | indexAndValue =>
    rcases decodeRegWr_cases (descIndex t.desc) t.value with hw | ⟨-, -, -, hB, -⟩
    · exact .inl (congrArg Instr.bytes? hw)
    · exact .inl hB

/-- The value of the operation is the one that travelled with the descriptor. -/
theorem value?_build : (r.build t).value? = none ∨ (r.build t).value? = some t.value := by
  cases hr with
  | nothing i _ hv => exact .inl hv
  | bytes d f _ hf => exact .inl (hf _).2.2
  | byte p f hf => exact .inl (hf _).2.2
  | index => exact .inl rfl
  | indexAndValue =>
    rcases decodeRegWr_cases (descIndex t.desc) t.value with hw | ⟨-, -, -, -, hv⟩
    · exact .inr (congrArg Instr.value? hw)
    · exact .inl hv

/-- Only the three pushes of a byte list read it. -/
theorem build_with_bytes (h : r.hits t.desc = true) (h3 : t.desc ≠ 0x030000#24) (h5 : t.desc ≠ 0x050000#24)
    (h7 : t.desc ≠ 0x070000#24) (B : List Byte) : r.build { t with bytes := B } = r.build t := by
  cases hr with
  | bytes d f hd =>
    rw [← hits_fullMask_iff.mp h] at hd
    simp only [h3, h5, h7, or_self] at hd
  | _ => rfl

/-- Only a register write reads the value. -/
theorem build_with_value (h : r.hits t.desc = true) (hw : t.desc.toNat / 16 ≠ 0x10010) (v : Word) :
    r.build { t with value := v } = r.build t := by
  cases hr with
  | indexAndValue =>
    refine absurd ?_ hw
    rw [hits_indexMask_iff.mp h, toNat_append_add]
    have := (descIndex t.desc).isLt
    simp only [BitVec.toNat_ofNat]
    omega
  | _ => rfl

end Reads

/-- Settles O2: what the row that hits reads of the transaction is in the operation it builds, and nothing else is. -/
theorem decodeKeepsEveryBit : Obligations.DecodeKeepsEveryBit := by
  intro t i hi
  obtain ⟨r, hmem, hit, rfl⟩ := decode_eq_ok t i hi
  have hr := reads_of_mem_opcodeTable r hmem
  refine ⟨encode_build_desc hr t hit, fun B hB => ?_, fun k v hv => ?_, fun h3 h5 h7 B => ?_, fun hw v => ?_⟩
  · have hsome : (r.build t).bytes? = some B := by rcases hB with h | h | h <;> rw [h] <;> rfl
    simpa [hsome] using bytes?_build hr t
  · simpa [hv, Instr.value?] using value?_build hr t
  · rw [decode_of_hits (t := { t with bytes := B }) hmem hit, build_with_bytes hr t hit h3 h5 h7 B]
  · rw [decode_of_hits (t := { t with value := v }) hmem hit, build_with_value hr t hit hw v]

/-- Settles O4: a row hits by the number of the bits that its mask keeps, so that the rows and the patterns are the same
thirty facts in another order. -/
theorem reservedDescriptorsInvalid : Obligations.ReservedDescriptorsInvalid := by
  intro t
  rw [decode_eq_error_iff]
  simp only [opcodeTable, hostRows, unitRows, List.cons_append, List.nil_append, List.forall_mem_cons,
    OpcodeRow.hits, beq_eq_false_iff_ne, ne_eq, and_fullMask, and_byteMask_eq_iff t.desc 0x0100 (by decide),
    and_byteMask_eq_iff t.desc 0x0180 (by decide), and_indexMask_eq_iff t.desc 0x10000 (by decide),
    and_indexMask_eq_iff t.desc 0x10010 (by decide)]
  simp only [← BitVec.toNat_inj, BitVec.toNat_ofNat, List.mem_cons, List.not_mem_nil, not_or, Nat.reduceMod,
    Nat.reducePow]
  tauto

end Sys2Proof
end

section
/-! PROOFS, what a step runs: the host's next transaction (O7, O10) and the operation of a unit's head item (O8). -/

namespace Sys2Proof.Machine

/-! ### The host's turn (R320) -/

/-- The host presents its first transaction. -/
theorem fetch_host {s : State} {t : Transaction} {ts : List Transaction} (h : s.host.pending = t :: ts) :
    fetch .host s = some t := by
  simp [fetch, h]

/-- An agent's turn is the operation that it presents, if that is its own. -/
theorem agentStep_of_decode {a : Agent} {s : State} {t : Transaction} {i : Instr} (hf : fetch a s = some t)
    (hd : decode t = .ok i) (hi : agentOf i = a) : agentStep a s = exec i (issue a i s) := by
  simp [agentStep, hf, hd, hi]

/-- An operation that waits leaves the state as it is (R17). -/
theorem exec_of_waits {i : Instr} {s : State} (h : waits i s = true) : exec i s = .next s := by
  obtain ⟨ha, hg⟩ := Bool.and_eq_true_iff.mp h
  exact exec_of_not_guard ha (by simpa using hg)

/-- Settles O7: the transaction is issued on the state with the turn used up, and waiting depends on neither. -/
theorem stepRunsHostTransaction : Obligations.StepRunsHostTransaction := by
  intro s rest t ts i hs hp hd hi
  have hstep : step s = exec i (issue .host i { s with schedule := rest }) := by
    rw [step, turn_of_schedule s hs, advance_of_schedule s hs]
    exact agentStep_of_decode (fetch_host hp) hd hi
  have hw : waits i { s with schedule := rest } = waits i s := rfl
  refine ⟨fun h => ?_, fun h => ?_⟩
  · rw [hstep, issue, hw, h]
    simp [retire, State.setHost, hp]
  · rw [hstep, issue, hw, if_pos h, exec_of_waits (hw.trans h)]

/-- Settles O10: the host's first transaction is what is decoded, and its agent what is compared. -/
theorem nonTransactionsRefused : Obligations.NonTransactionsRefused := by
  intro s t ts hp
  refine ⟨fun e he => ?_, fun i hi ha => ?_⟩
  · simp [agentStep, fetch_host hp, he]
  · simp [agentStep, fetch_host hp, hi, ha]

/-! ### A unit's turn (R100) -/

/-- On a unit's turn the operation of its head item runs, in the state with the turn used up. -/
theorem step_of_unit {a : Agent} {s : State} {rest : List Agent} {t : Transaction} {i : Instr} (ha : a ≠ .host)
    (hs : s.schedule = a :: rest) (hf : fetch a { s with schedule := rest } = some t) (hd : decode t = .ok i)
    (hi : agentOf i = a) : step s = exec i { s with schedule := rest } := by
  rw [step, turn_of_schedule s hs, advance_of_schedule s hs, agentStep_of_decode hf hd hi, issue_unit ha]

theorem step_sync {s : State} {rest : List Agent} {x : SiItem} {q : List SiItem} (hs : s.schedule = .sync :: rest)
    (hq : s.ports.si = x :: q) : step s = exec x.operation { s with schedule := rest } :=
  step_of_unit (by decide) hs (by simp [fetch, hq]) (decode_siStep x) (by cases x <;> rfl)

theorem step_pn {s : State} {rest : List Agent} {x : BlockItem} {q : List BlockItem}
    (hs : s.schedule = .pn :: rest) (hq : s.ports.pi = x :: q) :
    step s = exec x.pnOperation { s with schedule := rest } :=
  step_of_unit (by decide) hs (by simp [fetch, hq]) (decode_pnStep x) (by cases x <;> rfl)

theorem step_fp {s : State} {rest : List Agent} {x : BlockItem} {q : List BlockItem}
    (hs : s.schedule = .fp :: rest) (hq : s.ports.fi = x :: q) :
    step s = exec x.fpOperation { s with schedule := rest } :=
  step_of_unit (by decide) hs (by simp [fetch, hq]) (decode_fpStep x) (by cases x <;> rfl)

theorem step_tc {s : State} {rest : List Agent} {x : TiItem} {q : List TiItem} (hs : s.schedule = .tc :: rest)
    (hq : s.ports.ti = x :: q) : step s = exec .tcDecode { s with schedule := rest } :=
  step_of_unit (by decide) hs (by simp [fetch, hq]) (decode_tcStep x) rfl

/-- Settles O8: the unit presents its head item's step, which decodes to the item's operation. -/
theorem stepRunsUnitItem : Obligations.StepRunsUnitItem := by
  intro s rest
  exact ⟨fun hs => ⟨fun _ _ => step_sync hs, fun _ => step_sync hs, fun _ => step_sync hs⟩,
    fun hs => ⟨fun _ _ => step_pn hs, fun _ => step_pn hs, fun _ => step_pn hs⟩,
    fun hs => ⟨fun _ _ => step_fp hs, fun _ => step_fp hs, fun _ => step_fp hs⟩,
    fun hs _ _ => step_tc hs⟩

end Sys2Proof.Machine
end

section
/-! PROOFS, the items of FO (O35): what FP emits has the relations of R105 and R232, and nobody else appends to FO. -/

namespace Sys2Proof.Machine

/-! ### The items that FP emits -/

theorem toNat_vcKey (scid : BitVec 8) (vcid : BitVec 6) : (vcKey scid vcid).toNat = scid.toNat * 64 + vcid.toNat :=
  toNat_append_add scid vcid

/-- The sub-fields of the signalling byte are all of it (R105). -/
theorem append_signal_fields (x : BitVec 8) :
    x.extractLsb' 7 1 ++ x.extractLsb' 6 1 ++ x.extractLsb' 4 2 ++ x.extractLsb' 0 4 = x := by
  rw [BitVec.extractLsb'_append_extractLsb'_eq_extractLsb' (start₂ := 7) (start₁ := 6) rfl,
    BitVec.extractLsb'_append_extractLsb'_eq_extractLsb' (start₂ := 6) (start₁ := 4) rfl,
    BitVec.extractLsb'_append_extractLsb'_eq_extractLsb' (start₂ := 4) (start₁ := 0) rfl,
    BitVec.extractLsb'_eq_self]

/-- There is a gap exactly when counters are missing (R232). -/
theorem isGap_iff_missingCount (last : Option (BitVec 24)) (c : BitVec 24) :
    isGap last c = true ↔ missingCount last c ≠ 0#24 := by
  cases last with
  | none => simp [isGap, missingCount]
  | some l =>
    have hsub : c - l - 1#24 = 0#24 ↔ c = l + 1#24 := by rw [BitVec.sub_sub]; exact sub_eq_zero
    by_cases h : c = l + 1#24
    · simp [isGap, missingCount, h]
    · simp [isGap, missingCount, h, hsub]

theorem frameRecord_consistent (B : List Byte) (mo tl : Nat) (last : Option (BitVec 24)) :
    (FoItem.frame (frameRecord B mo tl last)).consistent := by
  refine ⟨toNat_vcKey _ _, (append_signal_fields _).symm, beq_iff_eq, isGap_iff_missingCount _ _, fun h => ?_⟩
  cases last with
  | none => rfl
  | some l => cases h

theorem gapRecord_consistent {B : List Byte} {l : BitVec 24} (h : isGap (some l) (frameCounter B) = true) :
    (FoItem.gap (gapRecord B l)).consistent := by
  refine ⟨toNat_vcKey _ _, ?_⟩
  have hne : missingCount (some l) (frameCounter B) ≠ 0#24 := (isGap_iff_missingCount _ _).mp h
  exact Nat.one_le_iff_ne_zero.mpr fun h0 => hne (BitVec.eq_of_toNat_eq h0)

/-! ### What an operation does to FO -/

/-- A frame appends items to FO that have the relations (R231, R232). -/
theorem parseFrame_fo (s : State) (B : List Byte) :
    ∃ xs, (s.parseFrame B).ports.fo = s.ports.fo ++ xs ∧ ∀ x ∈ xs, x.consistent := by
  rcases parseFrame_cases s B with ⟨r, h⟩ | h <;> rw [h]
  · exact ⟨[_], rfl, List.forall_mem_singleton.mpr r.code_eq_one_or_two⟩
  · have hframe := frameRecord_consistent B s.mo.toNat s.tl.toNat (s.vc.last (frameKey B))
    rcases reportGap_cases s B (s.vc.last (frameKey B)) with hg | ⟨l, -, hgap, hg⟩
    · exact ⟨[_], by simp [State.goodFrame, hg], List.forall_mem_singleton.mpr hframe⟩
    · exact ⟨[_, _], by simp [State.goodFrame, hg],
        List.forall_mem_cons.mpr ⟨gapRecord_consistent hgap, List.forall_mem_singleton.mpr hframe⟩⟩

/-- The change of a unit other than FP leaves FO alone (R370). -/
theorem Change.apply_fo {c : Change} (h : c.agent ≠ .fp) (s : State) : (c.apply s).ports.fo = s.ports.fo := by
  cases c with
  | fp => exact absurd rfl h
  | _ => rfl

theorem foConsistent_append {s t : State} {xs : List FoItem} (h : s.FoConsistent)
    (ht : t.ports.fo = s.ports.fo ++ xs) (hx : ∀ x ∈ xs, x.consistent) : t.FoConsistent := by
  intro x hmem
  rw [ht] at hmem
  exact (List.mem_append.mp hmem).elim (h x) (hx x)

theorem effect_fp_foConsistent {i : Instr} {s : State} (hi : agentOf i = .fp) (hg : guard i s = true)
    (h : s.FoConsistent) : (effect i s).FoConsistent := by
  cases i with
  | fpData =>
    obtain ⟨B, q, -, -, hb⟩ := fpDataBody_of_guard s hg
    obtain ⟨xs, hfo, hx⟩ := parseFrame_fo s.popFi B
    exact foConsistent_append h ((congrArg (fun t => t.ports.fo) hb).trans hfo) hx
  | fpEnd => exact foConsistent_append h rfl (List.forall_mem_singleton.mpr trivial)
  | fpIoErr => exact foConsistent_append h rfl (List.forall_mem_singleton.mpr trivial)
  | _ => cases hi

/-- A host transaction only takes from FO: its oldest item, or all of them. -/
theorem effect_host_fo {i : Instr} (s : State) (hi : agentOf i = .host) :
    (effect i s).ports.fo ⊆ s.ports.fo := by
  cases i with
  | popFo => exact List.tail_subset _
  | cmdSoftReset => exact List.nil_subset _
  | regWr k v =>
    by_cases hw : Instr.regWr k v = .regWr 15#4 3#32
    · cases hw; exact List.nil_subset _
    · rw [effect, writeReg_ports s hw]; exact List.Subset.refl _
  | pushSiByte | pushSiEnd | pushSiIoErr | pushPiData | pushPiEnd | pushPiIoErr | pushFiData | pushFiEnd
  | pushFiIoErr | pushTiTc | popBo | popPo | popTo | regRd | cmdNop | cmdSyncRestart | cmdVcClear =>
    exact List.Subset.refl _
  | _ => cases hi

theorem exec_foConsistent {i : Instr} {s t : State} (h : s.FoConsistent) (he : exec i s = .next t) :
    t.FoConsistent := by
  rcases exec_eq_next he with rfl | ⟨-, hg, rfl⟩
  · exact h
  by_cases hhost : agentOf i = .host
  · exact fun x hx => h x (effect_host_fo s hhost hx)
  by_cases hfp : agentOf i = .fp
  · exact effect_fp_foConsistent hfp hg h
  · obtain ⟨c, hc, hchange⟩ := effect_change (by simpa [isUnit] using hhost) hg
    intro x hx
    rw [hchange s (.refl _ s), Change.apply_fo (hc ▸ hfp)] at hx
    exact h x hx

@[simp] theorem advance_ports (s : State) : s.advance.ports = s.ports := by
  unfold State.advance
  split <;> rfl

@[simp] theorem issue_ports (a : Agent) (i : Instr) (s : State) : (issue a i s).ports = s.ports := by
  unfold issue
  split
  · rfl
  · cases a <;> rfl

/-- Settles O35: only FP appends to FO, and what it appends has the relations. -/
theorem foItemsStayConsistent : Obligations.FoItemsStayConsistent := by
  intro s t h hstep
  rcases agentStep_eq_next hstep with rfl | ⟨i, -, he⟩
  · simpa [State.FoConsistent] using h
  · exact exec_foConsistent (by simpa [State.FoConsistent] using h) he

end Sys2Proof.Machine
end

section
/-! PROOFS, the three steps of SYNC (O23, O24, O25): their guards as R150 to R154 write them, and the state
that each leaves. -/

namespace Sys2Proof.Machine

/-! ### The guards (R150, R152 to R154) -/

theorem syncActive_iff (s : State) : s.syncActive = true ↔ s.SyncActive := by
  have hstate : s.sync.state.active = true ↔ s.sync.state = .search ∨ s.sync.state = .collect := by
    cases s.sync.state <;> simp [SyncState.active]
  simp [State.syncActive, State.SyncActive, State.syncEn, hstate, bsizeLegal_iff, Nat.one_le_iff_ne_zero, and_assoc]

/-- A free slot, as `room` and as `space` say it (R16). -/
theorem room_one_iff {α : Type} (s : State) (q : List α) : s.room q 1 = true ↔ 1 ≤ s.space q := by
  rw [State.room_iff, State.space]
  omega

theorem guardSyncEnd_iff (s : State) :
    guardSyncEnd s = true ↔ s.SyncActive ∧ s.ports.si.head? = some .endMark ∧ 1 ≤ s.space s.syncOut := by
  simp only [guardSyncEnd, Bool.and_eq_true, syncActive_iff, room_one_iff, beq_iff_eq, and_assoc]

theorem guardSyncIoErr_iff (s : State) :
    guardSyncIoErr s = true ↔ s.SyncActive ∧ s.ports.si.head? = some .ioErr ∧ 1 ≤ s.space s.syncOut := by
  simp only [guardSyncIoErr, Bool.and_eq_true, syncActive_iff, room_one_iff, beq_iff_eq, and_assoc]

theorem completesBlock_iff (s : State) :
    s.completesBlock = true ↔ s.sync.state = .collect ∧ s.sync.buf.length + 1 = s.sync.curBsize.toNat := by
  simp only [State.completesBlock, Bool.and_eq_true, beq_iff_eq]

theorem guardSyncByte_iff (b : Byte) (s : State) :
    guardSyncByte b s = true ↔ s.SyncActive ∧ s.ports.si.head? = some (.byte b)
      ∧ ¬ (s.completesBlock = true ∧ s.space s.syncOut < 1) := by
  have hwait : (!(s.completesBlock && !s.room s.syncOut 1)) = true
      ↔ ¬ (s.completesBlock = true ∧ s.space s.syncOut < 1) := by
    rw [← not_le, ← room_one_iff]
    cases s.completesBlock <;> simp
  simp only [guardSyncByte, Bool.and_eq_true, syncActive_iff, beq_iff_eq, hwait, and_assoc]

/-- An operation of SYNC whose guard does not hold waits (R17). -/
theorem exec_sync_of_not_guard {i : Instr} {s : State} (hi : agentOf i = .sync) (h : ¬ guard i s = true) :
    exec i s = .next s :=
  exec_of_not_guard (admits_of_agentOf_ne_host (by simp [hi]) s) (by simpa using h)

/-! ### The state after each step -/

/-- SYNC takes the head of SI and passes `y` on (R151): only the ports change. -/
theorem popSi_pushSyncOut {s : State} {x : SiItem} {q : List SiItem} (h : s.ports.si = x :: q) (y : BlockItem) :
    s.popSi.pushSyncOut y = s.setPorts (s.withSyncOut { s.ports with si := q } (s.syncOut ++ [y])) := by
  have hpop : s.popSi = s.setPorts { s.ports with si := q } := by rw [State.popSi, h, List.tail_cons]
  refine State.ext_parts (by simp) (by simp) (by simp) ?_ (by simp) (by simp) (by simp) (by simp)
  rw [pushSyncOut_ports, hpop]
  rfl

/-- Settles O24: the guard is R153's, and the step is SYNC's change with `End`. -/
theorem syncEndStep : Obligations.SyncEndStep := by
  refine ⟨rfl, fun s => ⟨fun h => ?_, fun q ha hq hr => ?_⟩⟩
  · exact exec_sync_of_not_guard rfl (mt (guardSyncEnd_iff s).mp h)
  · have hg : guard .syncEnd s = true := (guardSyncEnd_iff s).mpr ⟨ha, by simp [hq], hr⟩
    have hsticky : (s.regs.sticky ||| if s.sync.state = .collect then Event.trunc.bit else 0#6)
        = if s.sync.state = .collect then s.regs.sticky ||| 0x02#6 else s.regs.sticky := by
      split <;> simp
    rw [exec_of_guard rfl hg, effect, syncEndBody_change (.refl _ s), Change.apply_sync_some, popSi_pushSyncOut hq]
    simp only [Regs.plus, Regs.reset, hsticky, BitVec.add_zero]
    rfl

/-- Settles O25: the guard is R154's, and the step is SYNC's change with `IoErr`. -/
theorem syncIoErrStep : Obligations.SyncIoErrStep := by
  refine ⟨rfl, fun s => ⟨fun h => ?_, fun q ha hq hr => ?_⟩⟩
  · exact exec_sync_of_not_guard rfl (mt (guardSyncIoErr_iff s).mp h)
  · have hg : guard .syncIoErr s = true := (guardSyncIoErr_iff s).mpr ⟨ha, by simp [hq], hr⟩
    rw [exec_of_guard rfl hg, effect, syncIoErrBody_change (.refl _ s), Change.apply_sync_some, Regs.plus_event,
      popSi_pushSyncOut hq]
    rfl

theorem encode_syncByte (b : Byte) : encode (.syncByte b) = ⟨0x0180#16 ++ b, 0#32, []⟩ := rfl

/-- The byte that completes a block (R152). -/
theorem syncByteBody_of_completes {s : State} {b : Byte} (hc : s.sync.state = .collect)
    (hl : s.sync.buf.length + 1 = s.sync.curBsize.toNat) :
    s.syncByteBody b =
      ((s.popSi.pushSyncOut (.data (s.sync.buf ++ [b]))).setSync { s.sync with buf := [], state := .search }).setRegs
        { s.regs with streamPos := s.regs.streamPos + 1#32, blockCount := s.regs.blockCount + 1#32 } := by
  have hpush (x : BlockItem) : s.popSi.bumpStreamPos.pushSyncOut x =
      (s.popSi.pushSyncOut x).setRegs s.popSi.bumpStreamPos.regs :=
    pushSyncOut_setRegs s.popSi (r := s.popSi.bumpStreamPos.regs) rfl x
  rw [syncByteBody_collect s b hc, collectByte_eq, bumpStreamPos_sync, popSi_sync, if_pos hl, hpush]
  rfl

/-- The byte that joins a block in collection (R152). -/
theorem syncByteBody_of_not_completes {s : State} {b : Byte} (hc : s.sync.state = .collect)
    (hl : s.sync.buf.length + 1 ≠ s.sync.curBsize.toNat) :
    s.syncByteBody b = s.popSi.bumpStreamPos.setSync { s.sync with buf := s.sync.buf ++ [b] } := by
  rw [syncByteBody_collect s b hc, collectByte_eq, bumpStreamPos_sync, popSi_sync, if_neg hl]

/-- The window after the byte `b` as R152 writes it: the byte enters, and of five bytes the oldest leaves. -/
theorem nextWin_eq (s : State) (b : Byte) :
    s.nextWin b = if (s.sync.win ++ [b]).length = 5 then (s.sync.win ++ [b]).drop 1 else s.sync.win ++ [b] := by
  by_cases h : s.sync.win.length = 4
  · have hne : s.sync.win ≠ [] := List.ne_nil_of_length_pos (by omega)
    rw [State.nextWin, if_pos h, if_pos (by simp [h]), List.drop_one, List.tail_append_of_ne_nil hne]
  · rw [State.nextWin, if_neg h, if_neg (by simp [h])]

/-- Settles O23: the guard is R152's, and the byte is searched, collected, or completes the block. -/
theorem syncByteStep : Obligations.SyncByteStep := by
  intro b s
  have henabled {q : List SiItem} (ha : s.SyncActive) (hq : s.ports.si = .byte b :: q)
      (hr : s.completesBlock = true → 1 ≤ s.space s.syncOut) : exec (.syncByte b) s = .next (s.syncByteBody b) :=
    exec_of_guard (i := .syncByte b) rfl
      ((guardSyncByte_iff b s).mpr ⟨ha, by simp [hq], fun h => absurd (hr h.1) (by omega)⟩)
  refine ⟨encode_syncByte b, fun h => ?_, fun q ha hq hs => ?_, fun q ha hq hs hl => ?_, fun q ha hq hs hl hr => ?_⟩
  · refine exec_sync_of_not_guard rfl (mt (guardSyncByte_iff b s).mp ?_)
    rwa [completesBlock_iff, and_assoc]
  · rw [henabled ha hq fun h => by simp [completesBlock_iff, hs] at h, syncByteBody_search s b hs]
    intro w0 w
    have hw : s.popSi.bumpStreamPos.nextWin b = w := (nextWin_eq s b).trans (by simp [w, w0])
    have hskip : s.regs.skipCount + s.skipped
        = if w0.length = 5 then s.regs.skipCount + 1#32 else s.regs.skipCount := by
      simp [w0, State.skipped, apply_ite]
    rw [← hskip, searchByte_eq, hw, asm, State.popSi, hq, List.tail_cons]
    split <;> rfl
  · rw [henabled ha hq fun h => absurd ((completesBlock_iff s).mp h).2 hl, syncByteBody_of_not_completes hs hl]
    simp only [State.popSi, hq, List.tail_cons]
    rfl
  · rw [henabled ha hq fun _ => hr, syncByteBody_of_completes hs hl, popSi_pushSyncOut hq]
    rfl

end Sys2Proof.Machine
end

section
/-! PROOFS, the end of a stream (O26): in DONE and FAILED SYNC takes no step, and no operation of another agent reaches
SYNC's state or takes from SI, but a restart and a reset (R155, R370). -/

namespace Sys2Proof.Machine

/-- SYNC's state is left alone, and nothing is taken from SI. -/
def KeepsSync (s t : State) : Prop := t.sync = s.sync ∧ ∃ xs, t.ports.si = s.ports.si ++ xs

/-- An operation restarts SYNC (R340, R342): CMD.SYNC_RESTART, CMD.SOFT_RESET and their register writes. -/
def RestartsSync (i : Instr) : Prop :=
  i = .cmdSyncRestart ∨ i = .cmdSoftReset ∨ i = .regWr 15#4 1#32 ∨ i = .regWr 15#4 3#32

theorem keepsSync_of_eq {s t : State} (hu : t.sync = s.sync) (hq : t.ports.si = s.ports.si) : KeepsSync s t :=
  ⟨hu, [], by rw [hq, List.append_nil]⟩

theorem keepsSync_refl (s : State) : KeepsSync s s := keepsSync_of_eq rfl rfl

theorem writeReg_keepsSync (s : State) (k : BitVec 4) (v : Word) :
    KeepsSync s (s.writeReg k v) ∨ RestartsSync (.regWr k v) := by
  rcases writeReg_cases s k v with ⟨r, h, -⟩ | ⟨-, h⟩ | ⟨rfl, h⟩ <;> rw [h]
  · exact .inl (keepsSync_of_eq rfl rfl)
  · exact .inl (keepsSync_of_eq rfl rfl)
  · rcases command_cases s v with ⟨-, hc⟩ | ⟨rfl, -⟩ | ⟨-, hc⟩ | ⟨rfl, -⟩ | ⟨-, hc⟩
    · rw [hc]; exact .inl (keepsSync_refl s)
    · exact .inr (.inr (.inr (.inl rfl)))
    · rw [hc]; exact .inl (keepsSync_of_eq rfl rfl)
    · exact .inr (.inr (.inr (.inr rfl)))
    · rw [hc]; exact .inl (keepsSync_of_eq rfl rfl)

/-- A host transaction other than a restart at most pushes to SI. -/
theorem effect_host_keepsSync {i : Instr} (s : State) (hi : agentOf i = .host) :
    KeepsSync s (effect i s) ∨ RestartsSync i := by
  cases i with
  | pushSiByte | pushSiEnd | pushSiIoErr => exact .inl ⟨rfl, [_], rfl⟩
  | pushPiData | pushPiEnd | pushPiIoErr | pushFiData | pushFiEnd | pushFiIoErr | pushTiTc | popBo | popPo | popFo
  | popTo | regRd | cmdNop | cmdVcClear => exact .inl (keepsSync_of_eq rfl rfl)
  | regWr k v => exact writeReg_keepsSync s k v
  | cmdSyncRestart => exact .inr (.inl rfl)
  | cmdSoftReset => exact .inr (.inr (.inl rfl))
  | _ => cases hi

/-- The change of a unit other than SYNC leaves SYNC's state and SI alone (R370). -/
theorem Change.apply_keepsSync {c : Change} (h : c.agent ≠ .sync) (s : State) : KeepsSync s (c.apply s) := by
  cases c with
  | sync => exact absurd rfl h
  | _ => exact keepsSync_of_eq rfl rfl

/-- Only SYNC takes from SI and changes SYNC's state, but for a restart (R370). -/
theorem effect_keepsSync {i : Instr} {s : State} (hi : agentOf i ≠ .sync) (hg : guard i s = true) :
    KeepsSync s (effect i s) ∨ RestartsSync i := by
  by_cases hhost : agentOf i = .host
  · exact effect_host_keepsSync s hhost
  · obtain ⟨c, hc, hchange⟩ := effect_change (by simpa [isUnit] using hhost) hg
    rw [hchange s (.refl _ s)]
    exact .inl (Change.apply_keepsSync (hc ▸ hi) s)

/-- After the end of a stream SYNC is inactive (R150). -/
theorem syncActive_of_finished {s : State} (h : s.sync.state = .done ∨ s.sync.state = .failed) :
    s.syncActive = false := by
  rcases h with h | h <;> simp [State.syncActive, SyncState.active, h]

/-- Settles O26: SYNC's guards are false, the other agents keep SYNC's state and SI, and a restart sets its reset
state. -/
theorem finishedStreamWaitsForRestart : Obligations.FinishedStreamWaitsForRestart := by
  refine ⟨fun i s t hs he => ?_, fun s => ⟨_, _, rfl, rfl, rfl, rfl, rfl, rfl, rfl, rfl, rfl, rfl, rfl, rfl⟩⟩
  have hstall (hi : agentOf i = .sync) : guard i s = false := guard_of_not_syncActive (syncActive_of_finished hs) hi
  rcases exec_eq_next he with rfl | ⟨-, hg, rfl⟩
  · exact ⟨fun _ => rfl, .inl (keepsSync_refl _)⟩
  · have hi : agentOf i ≠ .sync := fun hi => by simp [hstall hi] at hg
    exact ⟨fun h => absurd h hi, effect_keepsSync hi hg⟩

end Sys2Proof.Machine
end

section
/-! PROOFS, the block sequence of a stream (O27): what a SYNC that is under way still has to emit is a function of its
state and the bytes to come (`State.due`), each byte emits what that function loses, and at the end nothing is due. -/

namespace Sys2Proof.Machine

/-! ### `blocks` (R156) -/

/-- The blocks of a stream of which `R` is what follows a marker. -/
def collected (R : List Byte) (n : Nat) : List (List Byte) :=
  if R.length < n then [] else R.take n :: blocks (R.drop n) n

theorem afterMarker_asm_append (S : List Byte) : afterMarker (asm ++ S) = some S := by
  simp [asm, afterMarker, asmLen]

/-- A byte that begins no marker is skipped. -/
theorem afterMarker_cons_of_ne {b : Byte} {S : List Byte} (h : (b :: S).take asmLen ≠ asm) :
    afterMarker (b :: S) = afterMarker S := if_neg h

/-- Four bytes that are not the marker, or fewer, hold no marker. -/
theorem afterMarker_eq_none {W : List Byte} (hl : W.length ≤ asmLen) (hne : W ≠ asm) : afterMarker W = none := by
  induction W with
  | nil => rfl
  | cons b W ih =>
    have hshort : W.length < asmLen := hl
    rw [afterMarker_cons_of_ne (by rwa [List.take_of_length_le hl])]
    exact ih hshort.le fun h => absurd (congrArg List.length h) hshort.ne

/-- The marker itself is used up. -/
theorem length_lt_of_afterMarker {S R : List Byte} (h : afterMarker S = some R) : R.length < S.length := by
  induction S with
  | nil => cases h
  | cons b S ih =>
    rw [afterMarker] at h
    split at h
    · cases h; simp only [List.length_drop, List.length_cons]; omega
    · exact (ih h).trans (Nat.lt_succ_self _)

/-- As many iterations as there are bytes are enough. -/
theorem blocksWithin_congr {S : List Byte} {f g : Nat} (n : Nat) (hf : S.length ≤ f) (hg : S.length ≤ g) :
    blocksWithin f S n = blocksWithin g S n := by
  have hnil (g : Nat) : blocksWithin g [] n = [] := by cases g <;> rfl
  induction f generalizing S g with
  | zero => rw [List.length_eq_zero_iff.mp (Nat.le_zero.mp hf), hnil, hnil]
  | succ f ih =>
    cases g with
    | zero => rw [List.length_eq_zero_iff.mp (Nat.le_zero.mp hg), hnil, hnil]
    | succ g =>
      rw [blocksWithin, blocksWithin]
      cases hR : afterMarker S with
      | none => rfl
      | some R =>
        have hlt := length_lt_of_afterMarker hR
        have hdrop : (R.drop n).length ≤ R.length := by rw [List.length_drop]; omega
        simp only [ih (S := R.drop n) (g := g) (by omega) (by omega)]

theorem blocks_of_none {S : List Byte} (h : afterMarker S = none) (n : Nat) : blocks S n = [] := by
  unfold blocks
  cases S.length <;> simp [blocksWithin, h]

theorem blocks_of_some {S R : List Byte} (h : afterMarker S = some R) (n : Nat) : blocks S n = collected R n := by
  have hlt := length_lt_of_afterMarker h
  obtain ⟨f, hf⟩ : ∃ f, S.length = f + 1 := Nat.exists_eq_succ_of_ne_zero (by omega)
  have hrest : blocksWithin f (R.drop n) n = blocks (R.drop n) n :=
    blocksWithin_congr n (by rw [List.length_drop]; omega) le_rfl
  rw [blocks, hf, blocksWithin, h, collected, ← hrest]

/-- A block that is whole is emitted, and the search goes on after it. -/
theorem collected_append {B : List Byte} {n : Nat} (h : B.length = n) (S : List Byte) :
    collected (B ++ S) n = B :: blocks S n := by
  rw [collected, if_neg (by simp [h]), List.take_left' h, List.drop_left' h]

/-- Streams with the same rest after the first marker have the same blocks. -/
theorem blocks_congr {S T : List Byte} (h : afterMarker S = afterMarker T) (n : Nat) : blocks S n = blocks T n := by
  cases hT : afterMarker T with
  | none => rw [blocks_of_none (h.trans hT), blocks_of_none hT]
  | some R => rw [blocks_of_some (h.trans hT), blocks_of_some hT]

/-- The window before a byte and after it have the same marker ahead (R152): the byte that leaves begins none. -/
theorem afterMarker_nextWin {s : State} (hne : s.sync.win ≠ asm) (b : Byte) (S : List Byte) :
    afterMarker (s.sync.win ++ b :: S) = afterMarker (s.nextWin b ++ S) := by
  unfold State.nextWin
  split
  case isTrue hfull =>
    cases hw : s.sync.win with
    | nil => simp [hw] at hfull
    | cons a W =>
      have htake : (a :: (W ++ b :: S)).take asmLen = s.sync.win := by
        rw [← List.cons_append, ← hw]; exact List.take_left' hfull
      rw [List.cons_append, afterMarker_cons_of_ne (htake ▸ hne)]
      simp
  case isFalse => simp

/-! ### What is due (R156) -/

/-- The blocks that SYNC, with BSIZE as it stands, still emits from the bytes `S`. -/
def State.due (s : State) (S : List Byte) : List (List Byte) :=
  match s.sync.state with
  | .search => blocks (s.sync.win ++ S) s.bsize.toNat
  | .collect => collected (s.sync.buf ++ S) s.bsize.toNat
  | .done | .failed => []

theorem due_search {s : State} (h : s.sync.state = .search) (S : List Byte) :
    s.due S = blocks (s.sync.win ++ S) s.bsize.toNat := by
  rw [State.due, h]

theorem due_collect {s : State} (h : s.sync.state = .collect) (S : List Byte) :
    s.due S = collected (s.sync.buf ++ S) s.bsize.toNat := by
  rw [State.due, h]

/-- The block that the byte `b` completes, if it does. -/
def State.completed (s : State) (b : Byte) : List (List Byte) :=
  if s.completesBlock then [s.sync.buf ++ [b]] else []

/-! ### One byte of a stream (R152) -/

/-- `t` is `s` after a byte that is followed by the bytes `S`, with the blocks `out` emitted. -/
structure TakesByte (b : Byte) (S : List Byte) (out : List (List Byte)) (s t : State) : Prop where
  si : t.ports.si = s.ports.si.tail
  syncOut : t.syncOut = s.syncOut ++ out.map .data
  active : t.sync.state = .search ∨ t.sync.state = .collect
  latched : t.sync.state = .collect → t.sync.curBsize = s.bsize
  blockCount : t.regs.blockCount = s.regs.blockCount + BitVec.ofNat 32 out.length
  streamPos : t.regs.streamPos = s.regs.streamPos + 1#32
  due : s.due (b :: S) = out ++ t.due S

/-- SYNC's item goes to its output port (R151). -/
theorem Change.apply_sync_syncOut (s : State) (d : Regs) (u : SyncUnit) (x : Option BlockItem) :
    ((Change.sync d u s.chainPn x).apply s).syncOut = s.syncOut ++ x.toList := by
  have hc : ((Change.sync d u s.chainPn x).apply s).chainPn = s.chainPn := rfl
  rw [State.syncOut, State.syncOut, hc]
  cases h : s.chainPn <;> simp [Change.apply]

theorem takesByte_search {s : State} (hs : s.sync.state = .search) (hinv : s.sync.Inv s.params) (b : Byte)
    (S : List Byte) : TakesByte b S [] s (s.syncByteBody b) := by
  have hnext : s.popSi.bumpStreamPos.nextWin b = s.nextWin b := rfl
  have hdue : s.due (b :: S) = blocks (s.nextWin b ++ S) s.bsize.toNat := by
    rw [due_search hs, blocks_congr (afterMarker_nextWin hinv.notMarker b S)]
  rw [syncByteBody_search s b hs, searchByte_eq, hnext]
  split
  case isTrue hasm =>
    rw [hasm, blocks_of_some (afterMarker_asm_append S)] at hdue
    exact {
      si := rfl, syncOut := (List.append_nil _).symm, active := .inr rfl, latched := fun _ => rfl
      blockCount := (BitVec.add_zero _).symm, streamPos := rfl, due := hdue }
  case isFalse =>
    exact {
      si := rfl, syncOut := (List.append_nil _).symm, active := .inl hs
      latched := fun hc => absurd (hs.symm.trans hc) (by decide)
      blockCount := (BitVec.add_zero _).symm, streamPos := rfl
      due := hdue.trans (Eq.symm (due_search (by exact hs) S)) }

theorem takesByte_collect {s : State} (hc : s.sync.state = .collect) (hinv : s.sync.Inv s.params)
    (hlatch : s.sync.curBsize = s.bsize) (b : Byte) (S : List Byte) :
    TakesByte b S (s.completed b) s (s.syncByteBody b) := by
  have hdue : s.due (b :: S) = collected (s.sync.buf ++ [b] ++ S) s.bsize.toNat := by
    rw [due_collect hc, List.append_assoc, List.singleton_append]
  by_cases hl : s.sync.buf.length + 1 = s.sync.curBsize.toNat
  · have hwin : s.sync.win = [] := hinv.winOnlyInSearch (by simp [hc])
    have hchange : s.syncByteBody b =
        (Change.sync { Regs.reset with streamPos := 1#32, blockCount := 1#32 }
          { s.sync with buf := [], state := .search } s.chainPn (some (.data (s.sync.buf ++ [b])))).apply s := by
      rw [syncByteBody_of_completes hc hl, Change.apply_sync_some]
      simp [Regs.plus, Regs.reset]
    rw [collected_append (by simpa [← hlatch] using hl)] at hdue
    rw [hchange, State.completed, if_pos ((completesBlock_iff s).mpr ⟨hc, hl⟩)]
    exact {
      si := rfl, syncOut := Change.apply_sync_syncOut .., active := .inl rfl, latched := nofun
      blockCount := rfl, streamPos := rfl
      due := by
        show _ = _ :: blocks (s.sync.win ++ S) s.bsize.toNat
        rw [hdue, hwin, List.nil_append] }
  · have hn : ¬ s.completesBlock = true := fun h => hl ((completesBlock_iff s).mp h).2
    rw [syncByteBody_of_not_completes hc hl, State.completed, if_neg hn]
    exact {
      si := rfl, syncOut := (List.append_nil _).symm, active := .inr hc, latched := fun _ => hlatch
      blockCount := (BitVec.add_zero _).symm, streamPos := rfl
      due := hdue.trans (Eq.symm (due_collect (by exact hc) S)) }

/-! ### A stream under way -/

/-- SYNC is enabled in SEARCH or COLLECT, the bytes `S` and `End` are in SI, and the output port has room for what is
due and for `End`. -/
structure Streaming (S : List Byte) (s : State) : Prop where
  input : s.ports.si = S.map SiItem.byte ++ [.endMark]
  inv : s.sync.Inv s.params
  active : s.sync.state = .search ∨ s.sync.state = .collect
  latched : s.sync.state = .collect → s.sync.curBsize = s.bsize
  enabled : s.regs.ctrl.getLsbD 0 = true
  legal : 1 ≤ s.bsize.toNat ∧ s.bsize.toNat ≤ s.params.blockMax
  room : (s.due S).length + 1 ≤ s.space s.syncOut

/-- `t` is `s` after the stream `S` and its `End`: what was due is emitted and counted, and `End` passed on. -/
structure EndsStream (S : List Byte) (s t : State) : Prop where
  syncOut : t.syncOut = s.syncOut ++ (s.due S).map .data ++ [.endMark]
  si : t.ports.si = []
  done : t.sync.state = .done
  blockCount : t.regs.blockCount = s.regs.blockCount + BitVec.ofNat 32 (s.due S).length
  streamPos : t.regs.streamPos = s.regs.streamPos + BitVec.ofNat 32 S.length

/-- Which turns follow does not matter to a stream. -/
theorem Streaming.withSchedule {S : List Byte} {s : State} (h : Streaming S s) (turns : List Agent) :
    Streaming S { s with schedule := turns } := { h with }

theorem Streaming.syncActive {S : List Byte} {s : State} (h : Streaming S s) : s.SyncActive :=
  ⟨h.enabled, h.active, .inr h.legal, by simp [h.input]⟩

theorem Streaming.one_le_space {S : List Byte} {s : State} (h : Streaming S s) : 1 ≤ s.space s.syncOut := by
  have := h.room
  omega

/-- Without more bytes nothing is due: the window holds no marker, and the buffer is short of a block. -/
theorem Streaming.due_nil {s : State} (h : Streaming [] s) : s.due [] = [] := by
  rcases h.active with hs | hc
  · rw [due_search hs, List.append_nil, blocks_of_none (afterMarker_eq_none h.inv.win h.inv.notMarker)]
  · have hshort : s.sync.buf.length < s.bsize.toNat := h.latched hc ▸ h.inv.bufShort hc
    rw [due_collect hc, List.append_nil, collected, if_pos hshort]

/-- SYNC.END ends a stream of which all bytes are taken (R153). -/
theorem Streaming.endsStream {s : State} (h : Streaming [] s) : EndsStream [] s s.syncEndBody where
  syncOut := by rw [syncEndBody_change (.refl _ s), Change.apply_sync_syncOut, h.due_nil]; simp
  si := by rw [syncEndBody_change (.refl _ s)]; simp [Change.apply, h.input]
  done := by rw [syncEndBody_sync]
  blockCount := by rw [syncEndBody_regs, h.due_nil]; split <;> simp
  streamPos := by rw [syncEndBody_regs]; split <;> simp

theorem syncByteBody_schedule (s : State) (b : Byte) : (s.syncByteBody b).schedule = s.schedule := by
  rw [State.syncByteBody]
  split
  · rw [searchByte_eq]; split <;> rfl
  · rw [collectByte_eq]; split <;> simp

section Byte
variable {b : Byte} {S : List Byte} {s : State} (h : Streaming (b :: S) s)
include h

theorem Streaming.guardSyncByte : guardSyncByte b s = true :=
  (guardSyncByte_iff b s).mpr ⟨h.syncActive, by simp [h.input], fun hw => absurd h.one_le_space (by omega)⟩

/-- The next byte of the stream is taken, with the block it completes. -/
theorem Streaming.takesByte : ∃ out, TakesByte b S out s (s.syncByteBody b) := by
  rcases h.active with hs | hc
  · exact ⟨_, takesByte_search hs h.inv b S⟩
  · exact ⟨_, takesByte_collect hc h.inv (h.latched hc) b S⟩

/-- After the byte the rest of the stream is under way: the room that is gone is what is no longer due. -/
theorem Streaming.syncByteBody : Streaming S (s.syncByteBody b) := by
  obtain ⟨out, ht⟩ := h.takesByte
  have hfields : SameFields s (s.syncByteBody b) := sameFields_of_config (syncByteBody_config s b)
  have hparams : (s.syncByteBody b).params = s.params := syncByteBody_params s b
  exact {
    input := by rw [ht.si, h.input]; rfl
    inv := hparams.symm ▸ syncByteBody_sync_inv h.guardSyncByte h.inv
    active := ht.active
    latched := fun hc => (ht.latched hc).trans hfields.bsize.symm
    enabled := hfields.syncEn.trans h.enabled
    legal := by rw [hfields.bsize, hparams]; exact h.legal
    room := by
      have hroom := h.room
      rw [ht.due, List.length_append, State.space] at hroom
      rw [State.space, hparams, ht.syncOut, List.length_append, List.length_map]
      omega }

/-- What ends the rest of the stream after the byte ends the stream. -/
theorem Streaming.endsStream_cons {t : State} (he : EndsStream S (s.syncByteBody b) t) : EndsStream (b :: S) s t := by
  obtain ⟨out, ht⟩ := h.takesByte
  exact {
    syncOut := by rw [he.syncOut, ht.syncOut, ht.due]; simp
    si := he.si
    done := he.done
    blockCount := by
      rw [he.blockCount, ht.blockCount, ht.due, List.length_append, BitVec.ofNat_add, BitVec.add_assoc]
    streamPos := by
      rw [he.streamPos, ht.streamPos, List.length_cons, BitVec.add_assoc, ← BitVec.ofNat_add, Nat.add_comm] }

end Byte

/-! ### The run (R156) -/

theorem run_succ {s t : State} (h : step s = .next t) (k : Nat) :
    Host.Core.run core (k + 1) s = Host.Core.run core k t := by
  have hcore : core.step s = .next t := h
  simp [Host.Core.run, hcore]

/-- SYNC's turns take the bytes of a stream one by one and then `End`. -/
theorem Streaming.run {S : List Byte} {s : State} (hturns : s.schedule = List.replicate (S.length + 1) .sync)
    (h : Streaming S s) : ∃ t : State, Host.Core.run core (S.length + 1) s = .next t ∧ EndsStream S s t := by
  induction S generalizing s with
  | nil =>
    have h' := h.withSchedule []
    have hg : guard .syncEnd { s with schedule := [] } = true :=
      (guardSyncEnd_iff _).mpr ⟨h'.syncActive, by simp [h.input], h'.one_le_space⟩
    exact ⟨_, run_succ ((step_sync hturns h.input).trans (exec_unit rfl hg)) 0, { h'.endsStream with }⟩
  | cons b S ih =>
    have h' := h.withSchedule (List.replicate (S.length + 1) .sync)
    have hstep := (step_sync hturns h.input).trans (exec_unit (i := .syncByte b) rfl h'.guardSyncByte)
    obtain ⟨t, hrun, he⟩ := ih (syncByteBody_schedule _ b) h'.syncByteBody
    exact ⟨t, (run_succ hstep _).trans hrun, { h'.endsStream_cons he with }⟩

/-- A fresh SEARCH has the invariant. -/
theorem SyncUnit.inv_of_search {u : SyncUnit} (p : Params) (hs : u.state = .search) (hwin : u.win = [])
    (hbuf : u.buf = []) : u.Inv p := by
  obtain ⟨st, win, buf, n⟩ := u
  cases hs; cases hwin; cases hbuf
  exact inv_of_empty _ _ _ (by decide)

/-- Settles O27: from a fresh SEARCH the blocks due are those of the whole stream, and every byte keeps the account. -/
theorem streamYieldsItsBlocks : Obligations.StreamYieldsItsBlocks := by
  intro s S hturns hsi hs hwin hbuf hen h1 hmax hroom
  have hdue : s.due S = blocks S s.bsize.toNat := by rw [due_search hs, hwin, List.nil_append]
  have h : Streaming S s := {
    input := hsi
    inv := SyncUnit.inv_of_search _ hs hwin hbuf
    active := .inl hs
    latched := fun hc => absurd (hs.symm.trans hc) (by decide)
    enabled := hen
    legal := ⟨h1, hmax⟩
    room := hdue ▸ hroom }
  obtain ⟨t, hrun, he⟩ := h.run hturns
  exact ⟨t, hrun, hdue ▸ he.syncOut, he.si, he.done, hdue ▸ he.blockCount, he.streamPos⟩

end Sys2Proof.Machine
end

section
/-! PROOFS, the PN sequence (O32): the register as an iteration of its bit step, which yields the sequence bit by
bit (R200, R201). -/

namespace Sys2Proof.Machine

/-! ### The register after each bit step (R201) -/

/-- The register after `k` bit steps from the start of a block. -/
def pnReg (k : Nat) : BitVec 8 := lfsrStep^[k] lfsrInit

theorem pnReg_succ (k : Nat) : pnReg (k + 1) = lfsrStep (pnReg k) := Function.iterate_succ_apply' _ _ _

theorem pnByte_eq_pnReg (i : Nat) : pnByte i = pnReg (8 * i) := by
  induction i with
  | zero => rfl
  | succ i ih =>
    calc lfsrByteStep (pnByte i) = lfsrStep^[8] (pnReg (8 * i)) := by rw [ih]; rfl
      _ = pnReg (8 * (i + 1)) := by rw [pnReg, ← Function.iterate_add_apply, Nat.add_comm 8]; rfl

/-- A bit step moves each bit up by one place. -/
theorem lfsrStep_getLsbD_succ (l : BitVec 8) {j : Nat} (h : j < 7) :
    (lfsrStep l).getLsbD (j + 1) = l.getLsbD j := by
  rw [lfsrStep, BitVec.getLsbD_append, if_neg (by omega), BitVec.getLsbD_extractLsb', Nat.add_sub_cancel]
  simp [h]

/-- A bit step enters the feedback of the taps at the low end. -/
theorem lfsrStep_getLsbD_zero (l : BitVec 8) :
    (lfsrStep l).getLsbD 0 = ((l.getLsbD 7 ^^ l.getLsbD 4) ^^ (l.getLsbD 2 ^^ l.getLsbD 0)) := by
  rw [lfsrStep, BitVec.getLsbD_append, if_pos (by decide), BitVec.getLsbD_ofBool]
  rfl

/-- After `n` bit steps a bit that has not left the register is `n` places up. -/
theorem pnReg_add_getLsbD (k : Nat) {j n : Nat} (h : j + n < 8) :
    (pnReg (k + n)).getLsbD (j + n) = (pnReg k).getLsbD j := by
  induction n with
  | zero => rfl
  | succ n ih =>
    rw [← Nat.add_assoc, ← Nat.add_assoc, pnReg_succ, lfsrStep_getLsbD_succ _ (by omega), ih (by omega)]

/-- The register's most significant bit is the next bit of the sequence. -/
theorem pnBit_eq_pnReg (k : Nat) : pnBit k = (pnReg k).getLsbD 7 := by
  have hk : k % 8 < 8 := Nat.mod_lt k (by decide)
  have hshift := pnReg_add_getLsbD (8 * (k / 8)) (j := 7 - k % 8) (n := k % 8) (by omega)
  rw [Nat.div_add_mod, Nat.sub_add_cancel (by omega)] at hshift
  rw [pnBit, pnByte_eq_pnReg, hshift]

/-- The register holds the next eight bits of the sequence, the first of them most significant. -/
theorem pnReg_getLsbD (k : Nat) {j : Nat} (h : j < 8) : (pnReg k).getLsbD (7 - j) = pnBit (k + j) := by
  rw [pnBit_eq_pnReg, ← pnReg_add_getLsbD k (j := 7 - j) (n := j) (by omega), Nat.sub_add_cancel (by omega)]

/-- The register is what its next eight bits of the sequence are. -/
theorem pnReg_eq_of_pnBit {m n : Nat} (h : ∀ j, pnBit (m + j) = pnBit (n + j)) : pnReg m = pnReg n := by
  refine BitVec.eq_of_getLsbD_eq fun i hi => ?_
  have hi' : i = 7 - (7 - i) := by omega
  rw [hi', pnReg_getLsbD m (by omega), pnReg_getLsbD n (by omega), h]

/-! ### The recurrence and the period (R200) -/

/-- The recurrence: the bit that a step enters leaves the register seven steps later. -/
theorem pnBit_recurrence (k : Nat) :
    pnBit (k + 8) = (pnBit (k + 7) ^^ pnBit (k + 5) ^^ pnBit (k + 3) ^^ pnBit k) := by
  have bit (m : Nat) {j : Nat} (h : j < 8) : pnBit (m + j) = (pnReg m).getLsbD (7 - j) := (pnReg_getLsbD m h).symm
  calc pnBit (k + 8) = (lfsrStep (pnReg k)).getLsbD 0 := by rw [← pnReg_succ]; exact bit (k + 1) (j := 7) (by decide)
    _ = ((pnBit k ^^ pnBit (k + 3)) ^^ (pnBit (k + 5) ^^ pnBit (k + 7))) := by
      rw [lfsrStep_getLsbD_zero, bit k (j := 3) (by decide), bit k (j := 5) (by decide), bit k (j := 7) (by decide),
        pnBit_eq_pnReg]
    _ = _ := by
      rw [Bool.xor_comm (pnBit k), Bool.xor_comm (pnBit (k + 5)), Bool.xor_comm (pnBit (k + 3) ^^ pnBit k),
        ← Bool.xor_assoc]

theorem isPeriodicPt_lfsrStep : Function.IsPeriodicPt lfsrStep pnPeriod lfsrInit := by decide +kernel

/-- The least period of the register is 255: none of its maximal divisors 85, 51 and 15 is one. -/
theorem minimalPeriod_lfsrStep : Function.minimalPeriod lfsrStep lfsrInit = pnPeriod := by
  have hnot (d : Nat) (h : lfsrStep^[d] lfsrInit ≠ lfsrInit) : ¬ Function.minimalPeriod lfsrStep lfsrInit ∣ d :=
    fun hd => h ((Function.isPeriodicPt_minimalPeriod lfsrStep lfsrInit).trans_dvd hd)
  have hdivisor : ∀ m ∈ Nat.divisors 255, ¬ m ∣ 85 → ¬ m ∣ 51 → ¬ m ∣ 15 → m = 255 := by decide +kernel
  exact hdivisor _ (Nat.mem_divisors.mpr ⟨isPeriodicPt_lfsrStep.minimalPeriod_dvd, by decide⟩)
    (hnot 85 (by decide +kernel)) (hnot 51 (by decide +kernel)) (hnot 15 (by decide +kernel))

theorem pnReg_periodic : Function.Periodic pnReg pnPeriod := fun k =>
  (Function.iterate_add_apply lfsrStep k pnPeriod lfsrInit).trans (congrArg _ isPeriodicPt_lfsrStep)

theorem pnByte_periodic : Function.Periodic pnByte pnPeriod := fun i => by
  rw [pnByte_eq_pnReg, pnByte_eq_pnReg, Nat.mul_add]
  exact pnReg_periodic.nat_mul 8 (8 * i)

/-- A shift of the sequence that is shorter than its period shows in some bit. -/
theorem exists_pnBit_add_ne {p : Nat} (h0 : 0 < p) (hp : p < pnPeriod) : ∃ k, pnBit (k + p) ≠ pnBit k := by
  by_contra! h
  have hreg : pnReg p = pnReg 0 := pnReg_eq_of_pnBit fun j => by rw [Nat.add_comm, Nat.zero_add, h]
  have hmin := Function.IsPeriodicPt.minimalPeriod_le h0 (show Function.IsPeriodicPt lfsrStep p lfsrInit from hreg)
  rw [minimalPeriod_lfsrStep] at hmin
  omega

/-! ### The printed table (R202) -/

/-- Each byte of the table is eight bit steps after the one before it. -/
theorem isChain_pnTable : pnTable.IsChain fun a b => (lfsrByteStep (BitVec.ofNat 8 a)).toNat = b := by
  decide +kernel

theorem length_pnTable : pnTable.length = pnPeriod := by decide +kernel

theorem toNat_pnByte_of_lt {i : Nat} (h : i < pnTable.length) : (pnByte i).toNat = pnTable[i] := by
  induction i with
  | zero => rfl
  | succ i ih =>
    rw [← List.isChain_iff_getElem.mp isChain_pnTable i h, ← ih (by omega), BitVec.ofNat_toNat]
    rfl

/-- The PN bytes are the table's, over and over. -/
theorem toNat_pnByte (i : Nat) : (pnByte i).toNat = pnTable.getD (i % 255) 0 := by
  have hi : i % 255 < pnTable.length := length_pnTable ▸ Nat.mod_lt i (by decide)
  rw [List.getD_eq_getElem _ _ hi, ← toNat_pnByte_of_lt hi]
  exact congrArg _ (pnByte_periodic.map_mod_nat i).symm

/-- The bits of the sequence are those of the table. -/
theorem pnBit_eq_testBit (k : Nat) : pnBit k = (pnTable.getD (k / 8 % 255) 0).testBit (7 - k % 8) := by
  rw [← toNat_pnByte]
  rfl

theorem length_filter_pnBit : ((List.range 255).filter pnBit).length = 128 := by
  rw [funext pnBit_eq_testBit]
  decide +kernel

/-- Settles O32: the register holds the next eight bits of the sequence, so that its step is the recurrence and its
period the sequence's. -/
theorem pnSequenceIsTheGenerators : Obligations.PnSequenceIsTheGenerators := by
  refine ⟨by decide, pnBit_recurrence, fun k => ?_, fun p h0 hp => exists_pnBit_add_ne h0 hp, length_filter_pnBit,
    fun i j hj => ?_, pnByte_periodic⟩
  · rw [pnBit_eq_pnReg, pnBit_eq_pnReg, ← pnReg_periodic k, pnPeriod]
  · rw [pnByte_eq_pnReg, pnReg_getLsbD _ hj]

end Sys2Proof.Machine
end

section
/-! PROOFS, the three steps of PN (O29, O30) and that PN is its own inverse (O31). -/

namespace Sys2Proof.Machine

/-! ### The block (R203, R206) -/

/-- Each byte of a block is XORed with its byte of the sequence. -/
theorem getD_pnFrom (n : Nat) {B : List Byte} {i : Nat} (h : i < B.length) :
    (pnFrom (pnByte n) B).getD i 0#8 = B.getD i 0#8 ^^^ pnByte (n + i) := by
  induction B generalizing n i with
  | nil => cases h
  | cons b rest ih =>
    cases i with
    | zero => rfl
    | succ i =>
      rw [List.length_cons, Nat.add_lt_add_iff_right] at h
      rw [← Nat.add_assoc, Nat.add_right_comm]
      exact ih (n + 1) h

theorem toNat_getD_pn {B : List Byte} {i : Nat} (h : i < B.length) :
    ((pn B).getD i 0#8).toNat = (B.getD i 0#8).toNat ^^^ pnTable.getD (i % 255) 0 := by
  rw [← toNat_pnByte, ← BitVec.toNat_xor]
  exact congrArg _ ((getD_pnFrom 0 h).trans (by rw [Nat.zero_add]))

theorem pnFrom_pnFrom (l : BitVec 8) (B : List Byte) : pnFrom l (pnFrom l B) = B := by
  induction B generalizing l with
  | nil => rfl
  | cons b rest ih => rw [pnFrom, pnFrom, ih, BitVec.xor_assoc, BitVec.xor_self, BitVec.xor_zero]

/-- Settles O31: from every register value the two passes XOR each byte with the same PN byte. -/
theorem derandomizingTwiceRestores : Obligations.DerandomizingTwiceRestores :=
  pnFrom_pnFrom lfsrInit

/-! ### The steps (R203 to R205, R207) -/

theorem guardPnData_iff (s : State) :
    guardPnData s = true ↔ (∃ B, s.ports.pi.head? = some (.data B)) ∧ 1 ≤ s.space s.pnOut := by
  have hdata : s.ports.pi.head?.any BlockItem.isData = true ↔ ∃ B, s.ports.pi.head? = some (.data B) := by
    rcases s.ports.pi with _ | ⟨_ | _ | _, q⟩ <;> simp [BlockItem.isData]
  rw [guardPnData, Bool.and_eq_true, hdata, room_one_iff]

theorem guardPnEnd_iff (s : State) :
    guardPnEnd s = true ↔ s.ports.pi.head? = some .endMark ∧ 1 ≤ s.space s.pnOut := by
  rw [guardPnEnd, Bool.and_eq_true, beq_iff_eq, room_one_iff]

theorem guardPnIoErr_iff (s : State) :
    guardPnIoErr s = true ↔ s.ports.pi.head? = some .ioErr ∧ 1 ≤ s.space s.pnOut := by
  rw [guardPnIoErr, Bool.and_eq_true, beq_iff_eq, room_one_iff]

/-- PN takes the head of PI and passes `y` on (R207): only the ports change. -/
theorem popPi_pushPnOut {s : State} {x : BlockItem} {q : List BlockItem} (h : s.ports.pi = x :: q) (y : BlockItem) :
    s.popPi.pushPnOut y = { s with
      ports := if s.regs.ctrl.getLsbD 2
        then { s.ports with pi := q, fi := s.ports.fi ++ [y] }
        else { s.ports with pi := q, po := s.ports.po ++ [y] } } := by
  have hpop : s.popPi = s.setPorts { s.ports with pi := q } := by rw [State.popPi, h, List.tail_cons]
  cases hc : s.regs.ctrl.getLsbD 2 with
  | true => rw [pushPnOut_chained s.popPi hc, hpop]; rfl
  | false => rw [pushPnOut_unchained s.popPi hc, hpop]; rfl

/-- Settles O29: the guard is R203's, and the block passed on is `pn B`, which XORs each byte with the table's. -/
theorem pnDataStep : Obligations.PnDataStep := by
  refine ⟨rfl, fun s => ⟨fun h => ?_, fun B q hq hr => ⟨pn B, length_pn B, fun i hi => toNat_getD_pn hi, ?_⟩⟩⟩
  · exact exec_of_not_guard rfl (eq_false_of_ne_true (mt (guardPnData_iff s).mp h))
  · have hg : guard .pnData s = true := (guardPnData_iff s).mpr ⟨⟨B, by simp [hq]⟩, hr⟩
    have hbody : s.pnDataBody = s.popPi.pushPnOut (.data (pn B)) := by simp [State.pnDataBody, hq]
    rw [exec_of_guard rfl hg, effect, hbody, popPi_pushPnOut hq]

/-- Settles O30: the guards are R204's and R205's, and the item taken is the item passed on. -/
theorem pnPassesEndAndIoErr : Obligations.PnPassesEndAndIoErr := by
  refine ⟨rfl, rfl, fun s => ⟨fun h => ?_, fun h => ?_, fun q hq hr => ?_, fun q hq hr => ?_⟩⟩
  · exact exec_of_not_guard rfl (eq_false_of_ne_true (mt (guardPnEnd_iff s).mp h))
  · exact exec_of_not_guard rfl (eq_false_of_ne_true (mt (guardPnIoErr_iff s).mp h))
  · have hg : guard .pnEnd s = true := (guardPnEnd_iff s).mpr ⟨by simp [hq], hr⟩
    rw [exec_of_guard rfl hg, effect, popPi_pushPnOut hq]
  · have hg : guard .pnIoErr s = true := (guardPnIoErr_iff s).mpr ⟨by simp [hq], hr⟩
    rw [exec_of_guard rfl hg, effect, popPi_pushPnOut hq]

end Sys2Proof.Machine
end

section
/-! PROOFS, the three steps of FP (O33, O34): their guards as R232, R237 and R238 write them, the fields of a frame as
numbers, the gap report, and the state that each step leaves. -/

namespace Sys2Proof.Machine

/-! ### The guards (R232, R237, R238) -/

theorem any_isData_iff (q : List BlockItem) :
    q.head?.any BlockItem.isData = true ↔ ∃ B, q.head? = some (.data B) := by
  rcases q with _ | ⟨_ | _ | _, q⟩ <;> simp [BlockItem.isData]

/-- `n` free slots, as `room` and as `space` say it (R16). -/
theorem room_iff_le_space {α : Type} (s : State) (q : List α) {n : Nat} (hn : 0 < n) :
    s.room q n = true ↔ n ≤ s.space q := by
  rw [State.room_iff, State.space]
  omega

theorem guardFpData_iff (s : State) :
    guardFpData s = true ↔ (∃ B, s.ports.fi.head? = some (.data B)) ∧ 2 ≤ s.space s.ports.fo := by
  rw [guardFpData, Bool.and_eq_true, any_isData_iff, room_iff_le_space s _ Nat.two_pos]

theorem guardFpEnd_iff (s : State) :
    guardFpEnd s = true ↔ s.ports.fi.head? = some .endMark ∧ 1 ≤ s.space s.ports.fo := by
  rw [guardFpEnd, Bool.and_eq_true, beq_iff_eq, room_one_iff]

theorem guardFpIoErr_iff (s : State) :
    guardFpIoErr s = true ↔ s.ports.fi.head? = some .ioErr ∧ 1 ≤ s.space s.ports.fo := by
  rw [guardFpIoErr, Bool.and_eq_true, beq_iff_eq, room_one_iff]

/-! ### The fields of a frame as numbers (R108 to R110) -/

theorem toNat_extractLsb'_eq_div_mod {w : Nat} (x : BitVec w) (start len : Nat) :
    (x.extractLsb' start len).toNat = x.toNat / 2 ^ start % 2 ^ len := by
  rw [BitVec.extractLsb'_toNat, Nat.shiftRight_eq_div_pow]

theorem toNat_frameVersion (B : List Byte) : (frameVersion B).toNat = (B.getD 0 0#8).toNat / 64 := by
  have := (B.getD 0 0#8).isLt
  rw [frameVersion, byteAt, toNat_extractLsb'_eq_div_mod]
  omega

theorem toNat_frameScid (B : List Byte) :
    (frameScid B).toNat = (B.getD 0 0#8).toNat % 64 * 4 + (B.getD 1 0#8).toNat / 64 := by
  have := (B.getD 1 0#8).isLt
  rw [frameScid, byteAt, byteAt, toNat_append_add, toNat_extractLsb'_eq_div_mod, toNat_extractLsb'_eq_div_mod]
  omega

theorem toNat_frameVcid (B : List Byte) : (frameVcid B).toNat = (B.getD 1 0#8).toNat % 64 := by
  rw [frameVcid, byteAt, toNat_extractLsb'_eq_div_mod]
  omega

theorem toNat_frameCounter (B : List Byte) :
    (frameCounter B).toNat
      = (B.getD 2 0#8).toNat * 65536 + (B.getD 3 0#8).toNat * 256 + (B.getD 4 0#8).toNat := by
  rw [frameCounter, be24, toNat_append_add, toNat_append_add]
  simp only [byteAt, Nat.reduceAdd]
  omega

theorem toNat_frameMpduSpare (B : List Byte) (mo : Nat) :
    (frameMpduSpare B mo).toNat = (B.getD mo 0#8).toNat / 8 := by
  have := (B.getD mo 0#8).isLt
  rw [frameMpduSpare, byteAt, toNat_extractLsb'_eq_div_mod]
  omega

theorem toNat_frameFhp (B : List Byte) (mo : Nat) :
    (frameFhp B mo).toNat = (B.getD mo 0#8).toNat % 8 * 256 + (B.getD (mo + 1) 0#8).toNat := by
  rw [frameFhp, byteAt, byteAt, toNat_append_add, toNat_extractLsb'_eq_div_mod]
  omega

theorem frameRecord_signal_fields (B : List Byte) (mo tl : Nat) (last : Option (BitVec 24)) :
    (frameRecord B mo tl last).replay.toNat = (B.getD 5 0#8).toNat / 128
      ∧ (frameRecord B mo tl last).vcfcUsage.toNat = (B.getD 5 0#8).toNat / 64 % 2
      ∧ (frameRecord B mo tl last).sigSpare.toNat = (B.getD 5 0#8).toNat / 16 % 4
      ∧ (frameRecord B mo tl last).vcfcCycle.toNat = (B.getD 5 0#8).toNat % 16 := by
  have := (B.getD 5 0#8).isLt
  simp only [frameRecord, frameSignal, byteAt, toNat_extractLsb'_eq_div_mod]
  omega

theorem frameRecord_fhpNone_iff (B : List Byte) (mo tl : Nat) (last : Option (BitVec 24)) :
    (frameRecord B mo tl last).fhpNone = true ↔ (frameRecord B mo tl last).fhp.toNat = 0x7FF :=
  beq_iff_eq.trans BitVec.toNat_inj.symm

theorem framePayload_eq (B : List Byte) (mo tl : Nat) :
    framePayload B mo tl = (B.drop (mo + 2)).take (B.length - mo - 2 - tl) := by
  rw [framePayload, mpduHdrLen, Nat.sub_sub, Nat.sub_sub, Nat.add_assoc]

/-- A length that a port can carry fits the 16 bits of a length field (R10, R105). -/
theorem toNat_ofNat_of_le_blockMax {p : Params} {n : Nat} (h : n ≤ p.blockMax) : (BitVec.ofNat 16 n).toNat = n :=
  Nat.mod_eq_of_lt (Nat.lt_succ_of_le (h.trans (Params.blockMax_le p)))

/-! ### The gap test (R232) -/

theorem isGap_some_iff (l c : BitVec 24) : isGap (some l) c = true ↔ c.toNat ≠ (l.toNat + 1) % 16777216 := by
  rw [isGap, bne_iff_ne, ne_eq, ← BitVec.toNat_inj, BitVec.toNat_add]
  rfl

theorem toNat_missingCount_of_isGap {l c : BitVec 24} (h : isGap (some l) c = true) :
    (missingCount (some l) c).toNat = (c.toNat + 16777216 - l.toNat - 1) % 16777216 := by
  rw [show missingCount (some l) c = c - l - 1#24 from if_pos h]
  bv_omega

theorem missingCount_of_not_isGap {last : Option (BitVec 24)} {c : BitVec 24} (h : isGap last c = false) :
    missingCount last c = 0#24 := by
  by_contra hne
  simp [(isGap_iff_missingCount last c).mpr hne] at h

/-- The items that go to FO before a well-formed frame's own: its `Gap` item, where the counter skips (R232). -/
def gapItems (B : List Byte) (last : Option (BitVec 24)) : List FoItem :=
  if isGap last (frameCounter B) then (last.map fun l => .gap (gapRecord B l)).toList else []

theorem gapItems_of_isGap {B : List Byte} {l : BitVec 24} (h : isGap (some l) (frameCounter B) = true) :
    gapItems B (some l) = [.gap (gapRecord B l)] := if_pos h

theorem gapItems_of_not_isGap {B : List Byte} {last : Option (BitVec 24)} (h : isGap last (frameCounter B) = false) :
    gapItems B last = [] := by
  simp [gapItems, h]

/-- A gap report appends the gap items to FO, and with one raises the flag and counts it (R232). -/
theorem reportGap_eq (s : State) (B : List Byte) (last : Option (BitVec 24)) :
    s.reportGap B last = { s with
      ports := { s.ports with fo := s.ports.fo ++ gapItems B last }
      regs := { s.regs with
        sticky := if isGap last (frameCounter B) then s.regs.sticky ||| 0x08#6 else s.regs.sticky
        gapCount := if isGap last (frameCounter B) then s.regs.gapCount + 1#32 else s.regs.gapCount } } := by
  cases hg : isGap last (frameCounter B) with
  | false => simp [reportGap_of_isGap_false s hg, gapItems_of_not_isGap hg]
  | true =>
    cases last with
    | none => cases hg
    | some l => rw [gapItems_of_isGap hg, State.reportGap, if_pos hg]; rfl

/-! ### The steps (R231, R232, R237, R238) -/

/-- CFG is tested before SHORT (R231). -/
theorem frameFailure_of_malformed {B : List Byte} {mo tl : Nat} (h : mo < 6 ∨ B.length < mo + 2 + tl) :
    ∃ r, frameFailure B mo tl = some r ∧ r.code = if mo < 6 then 2#2 else 1#2 := by
  by_cases hmo : mo < 6
  · exact ⟨.cfg, if_pos hmo, (if_pos hmo).symm⟩
  · exact ⟨.short, (if_neg hmo).trans (if_pos (h.resolve_left hmo)), (if_neg hmo).symm⟩

theorem frameFailure_of_wellFormed {B : List Byte} {mo tl : Nat} (hmo : 6 ≤ mo) (hl : mo + 2 + tl ≤ B.length) :
    frameFailure B mo tl = none :=
  (if_neg hmo.not_gt).trans (if_neg hl.not_gt)

/-- A malformed frame, with the reason's code (R231). -/
theorem parseFrame_of_malformed {s : State} {B : List Byte}
    (h : s.mo.toNat < 6 ∨ B.length < s.mo.toNat + 2 + s.tl.toNat) :
    ∃ r : MalformedReason, r.code = (if s.mo.toNat < 6 then 2#2 else 1#2)
      ∧ s.parseFrame B = s.malformedFrame r B.length := by
  obtain ⟨r, hf, hcode⟩ := frameFailure_of_malformed h
  exact ⟨r, hcode, by rw [State.parseFrame, hf]⟩

theorem parseFrame_of_wellFormed {s : State} {B : List Byte} (hmo : 6 ≤ s.mo.toNat)
    (hl : s.mo.toNat + 2 + s.tl.toNat ≤ B.length) :
    s.parseFrame B = s.goodFrame B s.mo.toNat s.tl.toNat := by
  rw [State.parseFrame, frameFailure_of_wellFormed hmo hl]

theorem popFi_eq {s : State} {x : BlockItem} {q : List BlockItem} (h : s.ports.fi = x :: q) :
    s.popFi = { s with ports := { s.ports with fi := q } } := by
  rw [State.popFi, h, List.tail_cons, State.setPorts]

/-- An enabled FP.DATA parses the frame at the head of FI (R232). -/
theorem exec_fpData {s : State} {B : List Byte} {q : List BlockItem} (hq : s.ports.fi = .data B :: q)
    (hr : 2 ≤ s.space s.ports.fo) : exec .fpData s = .next (s.popFi.parseFrame B) := by
  have hg : guard .fpData s = true := (guardFpData_iff s).mpr ⟨⟨B, by simp [hq]⟩, hr⟩
  rw [exec_of_guard rfl hg, effect, State.fpDataBody, hq]

/-- A well-formed frame: the gap report, the table's new entry and the `Frame` item (R232). -/
theorem goodFrame_eq (s : State) (B : List Byte) (mo tl : Nat) :
    s.goodFrame B mo tl =
      let last := s.vc.last (frameKey B)
      { s with
        vc := s.vc.record (frameKey B) (frameCounter B)
        ports := { s.ports with fo := s.ports.fo ++ gapItems B last ++ [.frame (frameRecord B mo tl last)] }
        regs := { s.regs with
          sticky := if isGap last (frameCounter B) then s.regs.sticky ||| 0x08#6 else s.regs.sticky
          gapCount := if isGap last (frameCounter B) then s.regs.gapCount + 1#32 else s.regs.gapCount
          frameCount := s.regs.frameCount + 1#32 } } := by
  rw [State.goodFrame, reportGap_eq]
  rfl

/-- Settles O33: the guard is R232's, a malformed frame's reason is R231's, and a well-formed frame's record is read
from its bytes by the lemmas above, with the gap report before it and its counter recorded. -/
theorem fpDataStep : Obligations.FpDataStep := by
  refine ⟨rfl, fun s => ⟨fun h => ?_, fun B q hq hr => ⟨fun hbad => ?_, fun hmo hl => ?_⟩⟩⟩
  · exact exec_of_not_guard rfl (eq_false_of_ne_true (mt (guardFpData_iff s).mp h))
  · obtain ⟨r, hcode, hparse⟩ := parseFrame_of_malformed (s := s.popFi) hbad
    refine ⟨BitVec.ofNat 16 B.length, toNat_ofNat_of_le_blockMax, ?_⟩
    rw [exec_fpData hq hr, hparse, State.malformedFrame, hcode, popFi_eq hq]
    rfl
  · obtain ⟨hreplay, husage, hspare, hcycle⟩ :=
      frameRecord_signal_fields B s.mo.toNat s.tl.toNat (s.vc.last (frameKey B))
    refine ⟨frameRecord B s.mo.toNat s.tl.toNat (s.vc.last (frameKey B)),
      s.vc.record (frameKey B) (frameCounter B), gapItems B (s.vc.last (frameKey B)),
      ⟨toNat_frameVersion B, toNat_frameScid B, toNat_frameVcid B, toNat_vcKey _ _, toNat_frameCounter B, rfl,
        hreplay, husage, hspare, hcycle, toNat_frameMpduSpare B _, toNat_frameFhp B _,
        frameRecord_fhpNone_iff _ _ _ _, framePayload_eq _ _ _, toNat_ofNat_of_le_blockMax⟩,
      Option.isNone_iff_eq_none, fun l (hlast : s.vc.last (frameKey B) = some l) => ?_, fun hlast => ?_,
      fun hgap => ⟨missingCount_of_not_isGap hgap, gapItems_of_not_isGap hgap⟩,
      VcTable.last_record_self _ _ _, fun k hk => VcTable.last_record_other _ _ hk, ?_⟩
    · rw [hlast]
      exact ⟨isGap_some_iff _ _, fun hgap => ⟨toNat_missingCount_of_isGap hgap, gapItems_of_isGap hgap⟩⟩
    · exact congrArg (isGap · (frameCounter B)) hlast
    · rw [exec_fpData hq hr, parseFrame_of_wellFormed (s := s.popFi) hmo hl, goodFrame_eq, popFi_eq hq]
      rfl

/-- Settles O34: the guards are R237's and R238's, and the item taken is the item passed on. -/
theorem fpPassesEndAndIoErr : Obligations.FpPassesEndAndIoErr := by
  refine ⟨rfl, rfl, fun s => ⟨fun h => ?_, fun h => ?_, fun q hq hr => ?_, fun q hq hr => ?_⟩⟩
  · exact exec_of_not_guard rfl (eq_false_of_ne_true (mt (guardFpEnd_iff s).mp h))
  · exact exec_of_not_guard rfl (eq_false_of_ne_true (mt (guardFpIoErr_iff s).mp h))
  · have hg : guard .fpEnd s = true := (guardFpEnd_iff s).mpr ⟨by simp [hq], hr⟩
    rw [exec_of_guard rfl hg, effect, popFi_eq hq]
    rfl
  · have hg : guard .fpIoErr s = true := (guardFpIoErr_iff s).mpr ⟨by simp [hq], hr⟩
    rw [exec_of_guard rfl hg, effect, popFi_eq hq]
    rfl

end Sys2Proof.Machine
end

section
/-! PROOFS, that `civil` counts the days of the Gregorian calendar (O38). The algorithm of R286 counts in years that
begin on 1 March, so that the leap day is a year's last. A date of such a year, in months counted from March, has a day
number; the date after it has the next day number, and the algorithm finds the date from the number. -/

namespace Sys2Proof.Machine

/-! ### March years (R286) -/

/-- The number of the first day of the March year `y`, as R286 numbers the days. -/
def marchYearStart (y : Nat) : Nat := 365 * y + y / 4 - y / 100 + y / 400

/-- The days of the March year `y`: the leap day that it may end with is that of the calendar year `y + 1`. -/
def marchYearLen (y : Nat) : Nat := if isLeap (y + 1) then 366 else 365

theorem isLeap_iff (y : Nat) : isLeap y = true ↔ 4 ∣ y ∧ ¬ 100 ∣ y ∨ 400 ∣ y := by
  simp [isLeap, Nat.dvd_iff_mod_eq_zero]

theorem marchYearStart_succ (y : Nat) : marchYearStart (y + 1) = marchYearStart y + marchYearLen y := by
  have h400 : 400 ∣ y + 1 → 100 ∣ y + 1 := Nat.dvd_trans (by decide)
  have h100 : 100 ∣ y + 1 → 4 ∣ y + 1 := Nat.dvd_trans (by decide)
  have hle : y / 100 ≤ y / 4 := Nat.div_le_div_left (by decide) (by decide)
  simp only [marchYearLen, marchYearStart, Nat.succ_div, isLeap_iff]
  split_ifs <;> omega

/-- The year of the era, from the day of the era (R286). -/
def yearOfEra (doe : Nat) : Nat := (doe - doe / 1460 + doe / 36524 - doe / 146096) / 365

/-- With `y` as centuries, groups of four years and years, the algorithm's first two quotients count the centuries and
the groups of four, or one more late in a group or era: the division by 365 absorbs the difference. -/
theorem yearOfEra_eq {y doy : Nat} (hy : y < 400) (h : doy < marchYearLen y) :
    yearOfEra (marchYearStart y + doy) = y := by
  obtain ⟨c, q, r, hc, hq, hr, rfl⟩ : ∃ c q r, c < 4 ∧ q < 25 ∧ r < 4 ∧ y = 100 * c + 4 * q + r :=
    ⟨y / 100, y % 100 / 4, y % 4, by omega, by omega, by omega, by omega⟩
  have hlen : doy < 365 ∨ doy = 365 ∧ r = 3 ∧ (q < 24 ∨ c = 3) := by
    simp only [marchYearLen, isLeap_iff] at h
    split at h <;> omega
  obtain ⟨doe, hdoe⟩ : ∃ doe, doe = 36524 * c + 1461 * q + 365 * r + doy := ⟨_, rfl⟩
  have hstart : marchYearStart (100 * c + 4 * q + r) + doy = doe := by
    rw [marchYearStart, hdoe]; omega
  have hlast : doe < 36524 * (c + 1) ∨ c = 3 ∧ doe = 146096 := by omega
  have hcentury : doe / 36524 = c + doe / 146096 := by
    rcases hlast with hlt | ⟨rfl, rfl⟩
    · rw [Nat.div_eq_of_lt (show doe < 146096 by omega)]; omega
    · rfl
  have hfour : doe / 1460 = 25 * c + q + (24 * c + q + 365 * r + doy) / 1460 := by omega
  rw [hstart, yearOfEra, hcentury, hfour]
  omega

/-! ### Eras of 400 years -/

theorem marchYearStart_era (e y : Nat) : marchYearStart (400 * e + y) = 146097 * e + marchYearStart y := by
  simp only [marchYearStart]
  omega

theorem marchYearLen_era (e y : Nat) : marchYearLen (400 * e + y) = marchYearLen y := by
  have h : isLeap (400 * e + y + 1) = isLeap (y + 1) := by
    rw [Bool.eq_iff_iff, isLeap_iff, isLeap_iff]
    omega
  rw [marchYearLen, marchYearLen, h]

theorem marchYearStart_add_lt {y doy : Nat} (hy : y < 400) (h : doy < marchYearLen y) :
    marchYearStart y + doy < 146097 := by
  have hend : marchYearStart (y + 1) ≤ 146097 := by rw [marchYearStart]; omega
  rw [marchYearStart_succ] at hend
  omega

/-! ### Months, counted from March -/

/-- The day of the year on which the month `mp`, counted from March, begins (R286). -/
def marchMonthStart (mp : Nat) : Nat := (153 * mp + 2) / 5

/-- The day of the year after the month `mp`: the last month ends with the year. -/
def marchMonthEnd (y mp : Nat) : Nat := if mp < 11 then marchMonthStart (mp + 1) else marchYearLen y

theorem marchYearLen_bounds (y : Nat) : 365 ≤ marchYearLen y ∧ marchYearLen y ≤ 366 := by
  rw [marchYearLen]
  split <;> decide

theorem marchMonthEnd_bounds (y : Nat) {mp : Nat} (h : mp < 12) :
    marchMonthStart mp < marchMonthEnd y mp
      ∧ marchMonthEnd y mp ≤ marchMonthStart (mp + 1) ∧ marchMonthEnd y mp ≤ marchYearLen y := by
  have := marchYearLen_bounds y
  simp only [marchMonthEnd, marchMonthStart]
  split <;> omega

/-- R286's month of a day of the year, counted from March. -/
theorem marchMonth_eq {doy mp : Nat} (hs : marchMonthStart mp ≤ doy) (he : doy < marchMonthStart (mp + 1)) :
    (5 * doy + 2) / 153 = mp := by
  rw [marchMonthStart] at hs he
  omega

/-- The number, in the calendar, of the month `mp` counted from March (R286). -/
def calendarMonth (mp : Nat) : Nat := if mp < 10 then mp + 3 else mp - 9

/-- The calendar date in the March year `y`, whose last two months are January and February of the year `y + 1`. -/
def marchDate (y mp mday : Nat) : CivilDate :=
  ⟨y + (if calendarMonth mp ≤ 2 then 1 else 0), calendarMonth mp, mday⟩

theorem calendarMonth_bounds {mp : Nat} (h : mp < 12) : 1 ≤ calendarMonth mp ∧ calendarMonth mp ≤ 12 := by
  rw [calendarMonth]
  split <;> omega

/-- Only February, the last month, depends on the year. -/
theorem marchMonthStart_add_daysInMonth (y : Nat) {mp : Nat} (h : mp < 12) (mday : Nat) :
    marchMonthStart mp + daysInMonth (marchDate y mp mday).year (marchDate y mp mday).month = marchMonthEnd y mp := by
  rcases Nat.lt_succ_iff_lt_or_eq.mp h with hlt | rfl
  · interval_cases mp <;> simp [daysInMonth, marchDate, calendarMonth, marchMonthEnd, marchMonthStart]
  · cases hleap : isLeap (y + 1) <;>
      simp [daysInMonth, marchDate, calendarMonth, marchMonthEnd, marchMonthStart, marchYearLen, hleap]

theorem next_marchDate_of_lt {y mp mday : Nat} (h : mp < 12) (hd : marchMonthStart mp + mday < marchMonthEnd y mp) :
    (marchDate y mp mday).next = marchDate y mp (mday + 1) := by
  rw [← marchMonthStart_add_daysInMonth y h mday] at hd
  exact if_pos (Nat.lt_of_add_lt_add_left hd)

theorem next_marchDate_of_eq {y mp mday : Nat} (h : mp < 12) (hd : marchMonthStart mp + mday = marchMonthEnd y mp) :
    (marchDate y mp mday).next = if mp < 11 then marchDate y (mp + 1) 1 else marchDate (y + 1) 0 1 := by
  rw [← marchMonthStart_add_daysInMonth y h mday] at hd
  refine (if_neg (Nat.add_left_cancel hd).not_lt).trans ?_
  interval_cases mp <;> rfl

/-! ### The day that `civil` is given (R286) -/

/-- `D` days after 1958-01-01 is the day `mday` of the month `mp` of the March year `y`. -/
structure IsMarchDay (D y mp mday : Nat) : Prop where
  month : mp < 12
  pos : 1 ≤ mday
  le : marchMonthStart mp + mday ≤ marchMonthEnd y mp
  number : D + 715086 = marchYearStart y + marchMonthStart mp + mday

theorem IsMarchDay.succ {D y mp mday : Nat} (h : IsMarchDay D y mp mday) :
    ∃ y' mp' mday', IsMarchDay (D + 1) y' mp' mday' ∧ (marchDate y mp mday).next = marchDate y' mp' mday' := by
  obtain ⟨hmp, hpos, hle, hD⟩ := h
  rcases hle.lt_or_eq with hlt | heq
  · exact ⟨y, mp, mday + 1, ⟨hmp, by omega, hlt, by omega⟩, next_marchDate_of_lt hmp hlt⟩
  have hnext := next_marchDate_of_eq hmp heq
  rw [marchMonthEnd] at heq
  by_cases hlast : mp < 11
  · rw [if_pos hlast] at heq hnext
    have hsucc : mp + 1 < 12 := by omega
    exact ⟨y, mp + 1, 1, ⟨hsucc, le_rfl, (marchMonthEnd_bounds y hsucc).1, by omega⟩, hnext⟩
  · rw [if_neg hlast] at heq hnext
    refine ⟨y + 1, 0, 1, ⟨by decide, le_rfl, (marchMonthEnd_bounds (y + 1) (by decide)).1, ?_⟩, hnext⟩
    rw [marchYearStart_succ, marchMonthStart]
    omega

theorem exists_isMarchDay (D : Nat) : ∃ y mp mday, IsMarchDay D y mp mday := by
  induction D with
  | zero => exact ⟨1957, 10, 1, by decide, by decide, by decide, by decide⟩
  | succ D ih =>
    obtain ⟨y, mp, mday, h⟩ := ih
    obtain ⟨y', mp', mday', h', -⟩ := h.succ
    exact ⟨y', mp', mday', h'⟩

/-- R286's algorithm finds the era, the year of the era, the day of the year, and then its month. -/
theorem IsMarchDay.civil_eq {D y mp mday : Nat} (h : IsMarchDay D y mp mday) : civil D = marchDate y mp mday := by
  obtain ⟨hmp, hpos, hle, hD⟩ := h
  obtain ⟨-, hnext, hyear⟩ := marchMonthEnd_bounds y hmp
  obtain ⟨doy, hdoy⟩ : ∃ doy, marchMonthStart mp + mday = doy + 1 := ⟨marchMonthStart mp + mday - 1, by omega⟩
  obtain ⟨e, r, hr, rfl⟩ : ∃ e r, r < 400 ∧ y = 400 * e + r :=
    ⟨y / 400, y % 400, Nat.mod_lt y (by decide), (Nat.div_add_mod y 400).symm⟩
  rw [marchYearLen_era] at hyear
  rw [marchYearStart_era] at hD
  have hmonth : (5 * doy + 2) / 153 = mp := marchMonth_eq (by omega) (by omega)
  have hmday : doy - (153 * mp + 2) / 5 + 1 = mday := by rw [marchMonthStart] at hdoy; omega
  have hlt : doy < marchYearLen r := by omega
  have hz : D + 719468 - daysToUnixEpoch = 146097 * e + (marchYearStart r + doy) := by rw [daysToUnixEpoch]; omega
  have hdoe := marchYearStart_add_lt hr hlt
  have hera : (146097 * e + (marchYearStart r + doy)) / 146097 = e := by
    rw [Nat.mul_add_div (by decide), Nat.div_eq_of_lt hdoe, Nat.add_zero]
  have hyoe := yearOfEra_eq hr hlt
  have hday : marchYearStart r + doy - (365 * r + r / 4 - r / 100) = doy := by
    rw [marchYearStart, Nat.div_eq_of_lt hr, Nat.add_zero, Nat.add_sub_cancel_left]
  rw [yearOfEra] at hyoe
  simp only [civil, hz, hera, Nat.mul_comm e, Nat.add_sub_cancel_left, hyoe, hday, hmonth, hmday]
  rw [Nat.add_comm r]
  rfl

theorem civil_succ (D : Nat) : civil (D + 1) = (civil D).next := by
  obtain ⟨y, mp, mday, h⟩ := exists_isMarchDay D
  obtain ⟨y', mp', mday', h', hnext⟩ := h.succ
  rw [h.civil_eq, h'.civil_eq, hnext]

theorem civil_month_bounds (D : Nat) : 1 ≤ (civil D).month ∧ (civil D).month ≤ 12 := by
  obtain ⟨y, mp, mday, h⟩ := exists_isMarchDay D
  rw [h.civil_eq]
  exact calendarMonth_bounds h.month

theorem civil_mday_bounds (D : Nat) :
    1 ≤ (civil D).mday ∧ (civil D).mday ≤ daysInMonth (civil D).year (civil D).month := by
  obtain ⟨y, mp, mday, h⟩ := exists_isMarchDay D
  have hle := h.le
  rw [← marchMonthStart_add_daysInMonth y h.month mday] at hle
  rw [h.civil_eq]
  exact ⟨h.pos, Nat.le_of_add_le_add_left hle⟩

/-- The year never falls from one day to the next. -/
theorem monotone_civil_year : Monotone fun D => (civil D).year :=
  monotone_nat_of_le_succ fun D => by
    rw [civil_succ, CivilDate.next]
    split_ifs
    · exact le_rfl
    · exact le_rfl
    · exact Nat.le_succ _

theorem civil_year_bounds {D : Nat} (h : D ≤ 65584) : 1958 ≤ (civil D).year ∧ (civil D).year ≤ 2137 :=
  ⟨monotone_civil_year (Nat.zero_le D), monotone_civil_year h⟩

/-- Settles O38: each day's March date has the next date as its successor, and the years grow from the first day's to
the last's. -/
theorem civilIsGregorian : Obligations.CivilIsGregorian := by
  refine ⟨by decide, by decide, fun D hD => ?_⟩
  obtain ⟨hyear, hyear'⟩ := civil_year_bounds hD
  obtain ⟨hmonth, hmonth'⟩ := civil_month_bounds D
  exact ⟨civil_succ D, hyear, hyear', hmonth, hmonth', civil_mday_bounds D⟩

end Sys2Proof.Machine
end

section
/-! PROOFS, the timecode converter: the fields of its record as integers, its step (O37), and the round trip (O39). -/

namespace Sys2Proof.Machine

/-! ### The bytes of a timecode (R14, R281) -/

theorem toNat_be16 (B : List Byte) (i : Nat) :
    (be16 B i).toNat = (B.getD i 0#8).toNat * 256 + (B.getD (i + 1) 0#8).toNat :=
  toNat_append_add _ _

theorem toNat_be32 (B : List Byte) (i : Nat) :
    (be32 B i).toNat = (B.getD i 0#8).toNat * 16777216 + (B.getD (i + 1) 0#8).toNat * 65536
      + (B.getD (i + 2) 0#8).toNat * 256 + (B.getD (i + 3) 0#8).toNat := by
  rw [be32, toNat_append_add, toNat_append_add, toNat_append_add]
  simp only [byteAt]
  omega

theorem be16_bytes (B : List Byte) (i : Nat) :
    (be16 B i).extractLsb' 8 8 = byteAt B i ∧ (be16 B i).extractLsb' 0 8 = byteAt B (i + 1) :=
  ⟨BitVec.extractLsb'_append_eq_left, BitVec.extractLsb'_append_eq_right⟩

/-- The last byte is under one append, and each byte before it under one more. -/
theorem be32_bytes (B : List Byte) (i : Nat) :
    (be32 B i).extractLsb' 24 8 = byteAt B i ∧ (be32 B i).extractLsb' 16 8 = byteAt B (i + 1)
      ∧ (be32 B i).extractLsb' 8 8 = byteAt B (i + 2) ∧ (be32 B i).extractLsb' 0 8 = byteAt B (i + 3) :=
  have under {v : Nat} (x : BitVec v) (b : Byte) (start : Nat) :
      (x ++ b).extractLsb' (start + 8) 8 = x.extractLsb' start 8 :=
    (BitVec.extractLsb'_append_eq_of_le (Nat.le_add_left 8 start)).trans (by rw [Nat.add_sub_cancel])
  ⟨(under _ _ 16).trans ((under _ _ 8).trans BitVec.extractLsb'_append_eq_left),
    (under _ _ 8).trans ((under _ _ 0).trans BitVec.extractLsb'_append_eq_right),
    (under _ _ 0).trans BitVec.extractLsb'_append_eq_right, BitVec.extractLsb'_append_eq_right⟩

theorem map_byteAt_range (B : List Byte) : (List.range B.length).map (byteAt B) = B :=
  List.ext_getElem (by simp) fun i hi hB => by simp [byteAt, hB]

/-! ### The fields of the record (R283 to R285) -/

/-- The largest instant (R280 (d)). -/
theorem instantUs_le (day : BitVec 16) (ms : BitVec 32) (us : BitVec 16) :
    instantUs day ms us ≤ 5666518967360535 := by
  rw [instantUs, usPerDay]
  omega

/-- The last day (R286). -/
theorem instantUs_div_le (day : BitVec 16) (ms : BitVec 32) (us : BitVec 16) :
    instantUs day ms us / usPerDay ≤ 65584 := by
  have := instantUs_le day ms us
  rw [usPerDay]
  omega

theorem toNat_timeRecord_tUs (B : List Byte) :
    (timeRecord B).tUs.toNat = instantUs (be16 B 0) (be32 B 2) (be16 B 6) := by
  have := instantUs_le (be16 B 0) (be32 B 2) (be16 B 6)
  simp only [timeRecord, BitVec.toNat_ofNat]
  exact Nat.mod_eq_of_lt (by omega)

/-- The Unix time fits its fields (R284). -/
theorem timeRecord_unix (B : List Byte) :
    (timeRecord B).unixUs.toInt = unixMicros (timeRecord B).tUs.toNat
      ∧ (timeRecord B).unixS.toInt = unixMicros (timeRecord B).tUs.toNat / 1000000
      ∧ ((timeRecord B).unixFrac.toNat : Int) = unixMicros (timeRecord B).tUs.toNat % 1000000 := by
  have := instantUs_le (be16 B 0) (be32 B 2) (be16 B 6)
  rw [toNat_timeRecord_tUs]
  simp only [timeRecord, unixMicros, epochUnixOffset, BitVec.toNat_ofInt]
  exact ⟨BitVec.toInt_ofInt_eq_self (by decide) (by omega) (by omega),
    BitVec.toInt_ofInt_eq_self (by decide) (by omega) (by omega), by omega⟩

theorem daysInMonth_le (y m : Nat) : daysInMonth y m ≤ 31 := by
  rw [daysInMonth]
  split_ifs <;> decide

/-- A date in the range of R286 fits its fields (R105). -/
theorem civil_lt {D : Nat} (h : D ≤ 65584) :
    (civil D).year < 2 ^ 16 ∧ (civil D).month < 2 ^ 4 ∧ (civil D).mday < 2 ^ 5 := by
  have hyear := (civil_year_bounds h).2
  have hmonth := (civil_month_bounds D).2
  have hmday := (civil_mday_bounds D).2.trans (daysInMonth_le _ _)
  omega

theorem timeRecord_civil (B : List Byte) :
    civil ((timeRecord B).tUs.toNat / usPerDay)
      = ⟨(timeRecord B).year.toNat, (timeRecord B).month.toNat, (timeRecord B).mday.toNat⟩ := by
  obtain ⟨hyear, hmonth, hmday⟩ := civil_lt (instantUs_div_le (be16 B 0) (be32 B 2) (be16 B 6))
  rw [toNat_timeRecord_tUs]
  simp only [timeRecord, BitVec.toNat_ofNat, Nat.mod_eq_of_lt hyear, Nat.mod_eq_of_lt hmonth, Nat.mod_eq_of_lt hmday]

theorem timeRecord_timeOfDay (B : List Byte) :
    (timeRecord B).hour.toNat = (timeRecord B).tUs.toNat % usPerDay / 3600000000
      ∧ (timeRecord B).minute.toNat = (timeRecord B).tUs.toNat % usPerDay / 60000000 % 60
      ∧ (timeRecord B).second.toNat = (timeRecord B).tUs.toNat % usPerDay / 1000000 % 60
      ∧ (timeRecord B).usec.toNat = (timeRecord B).tUs.toNat % usPerDay % 1000000 := by
  rw [toNat_timeRecord_tUs]
  simp only [timeRecord, BitVec.toNat_ofNat, usPerDay]
  omega

/-! ### The step (R280) -/

theorem guardTcDecode_iff (s : State) :
    guardTcDecode s = true ↔ s.ports.ti ≠ [] ∧ 1 ≤ s.space s.ports.tout := by
  rw [guardTcDecode, Bool.and_eq_true, room_one_iff, Bool.not_eq_true', List.isEmpty_eq_false_iff]

theorem popTi_eq {s : State} {x : TiItem} {q : List TiItem} (h : s.ports.ti = x :: q) :
    s.popTi = { s with ports := { s.ports with ti := q } } := by
  rw [State.popTi, h, List.tail_cons, State.setPorts]

/-- An enabled TC.DECODE converts the timecode at the head of TI. -/
theorem exec_tcDecode {s : State} {B : List Byte} {q : List TiItem} (hq : s.ports.ti = .tc B :: q)
    (hr : 1 ≤ s.space s.ports.tout) : exec .tcDecode s = .next (s.popTi.convertTime B) := by
  have hg : guard .tcDecode s = true := (guardTcDecode_iff s).mpr ⟨by simp [hq], hr⟩
  rw [exec_of_guard rfl hg, effect, State.tcDecodeBody, hq]

theorem convertTime_of_short (s : State) {B : List Byte} (h : B.length < 9) :
    s.convertTime B = (s.pushTo (.tcErr (BitVec.ofNat 4 B.length))).raiseEvent .tcErr := if_pos h

theorem convertTime_of_full (s : State) {B : List Byte} (h : 9 ≤ B.length) :
    s.convertTime B = (s.pushTo (.time (timeRecord B))).bumpTc := if_neg h.not_gt

/-- Settles O37: the guard is R280's, a short timecode's length fits the item, and a full one's record is read from its
bytes by the lemmas above. -/
theorem tcDecodeStep : Obligations.TcDecodeStep := by
  refine ⟨rfl, fun s => ⟨fun h => ?_, fun B q hq hr => ⟨fun hshort => ?_, fun hfull => ?_⟩⟩⟩
  · refine exec_of_not_guard rfl (eq_false_of_ne_true fun hg => ?_)
    obtain ⟨hti, hroom⟩ := (guardTcDecode_iff s).mp hg
    exact h.elim hti (Nat.ne_of_gt hroom)
  · refine ⟨BitVec.ofNat 4 B.length, Nat.mod_eq_of_lt (hshort.trans (by decide)), ?_⟩
    rw [exec_tcDecode hq hr, convertTime_of_short _ hshort, popTi_eq hq]
    rfl
  · obtain ⟨hus, hs, hfrac⟩ := timeRecord_unix B
    refine ⟨timeRecord B, ⟨toNat_be16 B 0, toNat_be32 B 2, toNat_be16 B 6, rfl, toNat_timeRecord_tUs B, hus,
      hus ▸ hs, hus ▸ hfrac, timeRecord_civil B, timeRecord_timeOfDay B⟩, ?_⟩
    rw [exec_tcDecode hq hr, convertTime_of_full _ hfull, popTi_eq hq]
    rfl

/-! ### The round trip (R288) -/

theorem encodeBytes_timeRecord (B : List Byte) : (timeRecord B).encodeBytes = (List.range 9).map (byteAt B) := by
  simp only [TimeRec.encodeBytes, timeRecord, be16_bytes, be32_bytes]
  rfl

/-- Day, millisecond and microsecond come back from an instant exactly where none of them carries (R288). -/
theorem instantUs_roundTrip_iff (day : BitVec 16) (ms : BitVec 32) (us : BitVec 16) :
    (instantUs day ms us / usPerDay = day.toNat ∧ instantUs day ms us % usPerDay / 1000 = ms.toNat
        ∧ instantUs day ms us % usPerDay % 1000 = us.toNat)
      ↔ ms.toNat < 86400000 ∧ us.toNat < 1000 := by
  rw [instantUs, usPerDay]
  omega

/-- Settles O39: the record's fields hold the bytes in order, and its instant names them where nothing carries. -/
theorem timecodeRoundTrips : Obligations.TimecodeRoundTrips := by
  refine fun B h => ⟨?_, ?_⟩
  · rw [encodeBytes_timeRecord, ← h, map_byteAt_range]
  · simp only [toNat_timeRecord_tUs]
    exact instantUs_roundTrip_iff (be16 B 0) (be32 B 2) (be16 B 6)

end Sys2Proof.Machine
end

section
/-! PROOFS, the host's pushes and pops (O11 to O16): where the port has a free slot, or an item, the operation has its
effect; where it has none, the operation waits; and an item that is too long is refused either way. -/

namespace Sys2Proof.Machine

/-! ### Pushes (R321) -/

theorem admits_pushPiData_iff (B : List Byte) (s : State) :
    admits (.pushPiData B) s = true ↔ B.length ≤ s.params.blockMax := by
  simp [admits]

theorem admits_pushFiData_iff (B : List Byte) (s : State) :
    admits (.pushFiData B) s = true ↔ B.length ≤ s.params.blockMax := by
  simp [admits]

theorem admits_pushTiTc_iff (B : List Byte) (s : State) : admits (.pushTiTc B) s = true ↔ B.length ≤ 9 := by
  rw [admits, Bool.not_eq_true', decide_eq_false_iff_not, not_lt, tcLen]

/-- An operation that needs one free slot in `q`, where there is one. -/
theorem exec_of_one_le_space {α : Type} {q : List α} {i : Instr} {s : State} (ha : admits i s = true)
    (hg : guard i s = s.room q 1) (h : 1 ≤ s.space q) : exec i s = .next (effect i s) :=
  exec_of_guard ha (hg.trans ((room_one_iff s q).mpr h))

/-- An operation that needs one free slot in `q`, where there is none. -/
theorem exec_of_space_eq_zero {α : Type} {q : List α} {i : Instr} {s : State} (ha : admits i s = true)
    (hg : guard i s = s.room q 1) (h : s.space q = 0) : exec i s = .next s :=
  exec_of_not_guard ha (hg.trans (eq_false_of_ne_true (mt (room_one_iff s q).mp (by omega))))

/-- Settles O11: the three pushes need one free slot in SI, and no item of SI is too long. -/
theorem pushSiAppends : Obligations.PushSiAppends := by
  refine fun b s => ⟨rfl, rfl, rfl, fun h => ?_, fun h => ?_⟩
  · exact ⟨exec_of_one_le_space rfl rfl h, exec_of_one_le_space rfl rfl h, exec_of_one_le_space rfl rfl h⟩
  · exact ⟨exec_of_space_eq_zero rfl rfl h, exec_of_space_eq_zero rfl rfl h, exec_of_space_eq_zero rfl rfl h⟩

/-- Settles O12: the three pushes need one free slot in PI, and a block of at most BLOCK_MAX bytes is admitted. -/
theorem pushPiAppends : Obligations.PushPiAppends := by
  refine fun B s => ⟨rfl, rfl, rfl, fun h => ⟨fun hB => ?_, ?_, ?_⟩, fun h => ⟨fun hB => ?_, ?_, ?_⟩⟩
  · exact exec_of_one_le_space ((admits_pushPiData_iff B s).mpr hB) rfl h
  · exact exec_of_one_le_space rfl rfl h
  · exact exec_of_one_le_space rfl rfl h
  · exact exec_of_space_eq_zero ((admits_pushPiData_iff B s).mpr hB) rfl h
  · exact exec_of_space_eq_zero rfl rfl h
  · exact exec_of_space_eq_zero rfl rfl h

/-- Settles O13: the three pushes need one free slot in FI, and a frame of at most BLOCK_MAX bytes is admitted. -/
theorem pushFiAppends : Obligations.PushFiAppends := by
  refine fun B s => ⟨rfl, rfl, rfl, fun h => ⟨fun hB => ?_, ?_, ?_⟩, fun h => ⟨fun hB => ?_, ?_, ?_⟩⟩
  · exact exec_of_one_le_space ((admits_pushFiData_iff B s).mpr hB) rfl h
  · exact exec_of_one_le_space rfl rfl h
  · exact exec_of_one_le_space rfl rfl h
  · exact exec_of_space_eq_zero ((admits_pushFiData_iff B s).mpr hB) rfl h
  · exact exec_of_space_eq_zero rfl rfl h
  · exact exec_of_space_eq_zero rfl rfl h

/-- Settles O14: the push needs one free slot in TI, and a timecode of at most 9 bytes is admitted. -/
theorem pushTiAppends : Obligations.PushTiAppends := by
  refine fun B s => ⟨rfl, fun hB h => ?_, fun hB h => ?_⟩
  · exact exec_of_one_le_space ((admits_pushTiTc_iff B s).mpr hB) rfl h
  · exact exec_of_space_eq_zero ((admits_pushTiTc_iff B s).mpr hB) rfl h

/-- Settles O15: an item over its port's bound is not admitted, and the guard is not asked. -/
theorem overlongItemsRefused : Obligations.OverlongItemsRefused := by
  refine fun B s => ⟨fun hB => ⟨?_, ?_⟩, fun hB => ?_⟩
  · exact exec_of_not_admits _ s (eq_false_of_ne_true (mt (admits_pushPiData_iff B s).mp hB.not_ge))
  · exact exec_of_not_admits _ s (eq_false_of_ne_true (mt (admits_pushFiData_iff B s).mp hB.not_ge))
  · exact exec_of_not_admits _ s (eq_false_of_ne_true (mt (admits_pushTiTc_iff B s).mp hB.not_ge))

/-! ### Pops (R321) -/

/-- An operation that needs an item in `p`, where there is one. -/
theorem exec_of_cons {α : Type} {p q : List α} {x : α} {i : Instr} {s : State} (ha : admits i s = true)
    (hg : guard i s = !p.isEmpty) (h : p = x :: q) : exec i s = .next (effect i s) :=
  exec_of_guard ha (by rw [hg, h]; rfl)

/-- An operation that needs an item in `p`, where there is none. -/
theorem exec_of_nil {α : Type} {p : List α} {i : Instr} {s : State} (ha : admits i s = true)
    (hg : guard i s = !p.isEmpty) (h : p = []) : exec i s = .next s :=
  exec_of_not_guard ha (by rw [hg, h]; rfl)

theorem effect_popBo {s : State} {x : BlockItem} {q : List BlockItem} (h : s.ports.bo = x :: q) :
    effect .popBo s = (s.setPorts { s.ports with bo := q }).reply (.bo x) := by
  rw [effect, State.popBo, h]
  rfl

theorem effect_popPo {s : State} {x : BlockItem} {q : List BlockItem} (h : s.ports.po = x :: q) :
    effect .popPo s = (s.setPorts { s.ports with po := q }).reply (.po x) := by
  rw [effect, State.popPo, h]
  rfl

theorem effect_popFo {s : State} {x : FoItem} {q : List FoItem} (h : s.ports.fo = x :: q) :
    effect .popFo s = (s.setPorts { s.ports with fo := q }).reply (.fo x) := by
  rw [effect, State.popFo, h]
  rfl

theorem effect_popTo {s : State} {x : ToItem} {q : List ToItem} (h : s.ports.tout = x :: q) :
    effect .popTo s = (s.setPorts { s.ports with tout := q }).reply (.tout x) := by
  rw [effect, State.popTo, h]
  rfl

/-- Settles O16: a pop needs an item, and its effect is the tail of the port and the head as the reply. -/
theorem popsTakeTheOldest : Obligations.PopsTakeTheOldest := by
  refine ⟨⟨rfl, rfl, rfl, rfl⟩, fun s => ⟨fun x q h => ?_, fun x q h => ?_, fun x q h => ?_, fun x q h => ?_,
    exec_of_nil rfl rfl, exec_of_nil rfl rfl, exec_of_nil rfl rfl, exec_of_nil rfl rfl⟩⟩
  · exact (exec_of_cons rfl rfl h).trans (congrArg _ (effect_popBo h))
  · exact (exec_of_cons rfl rfl h).trans (congrArg _ (effect_popPo h))
  · exact (exec_of_cons rfl rfl h).trans (congrArg _ (effect_popFo h))
  · exact (exec_of_cons rfl rfl h).trans (congrArg _ (effect_popTo h))

end Sys2Proof.Machine
end

section
/-! PROOFS, the register accesses (O17, O18) and the commands (O19, O20, O22). -/

namespace Sys2Proof.Machine

/-! ### Reading a register (R35, R337) -/

/-- A register's bits below `n`, as a register value. -/
theorem toNat_setWidth_extractLsb' (v : Word) {n : Nat} (hn : n ≤ 32) :
    ((v.extractLsb' 0 n).setWidth 32).toNat = v.toNat % 2 ^ n := by
  rw [BitVec.toNat_setWidth_of_le hn, toNat_extractLsb'_eq_div_mod, Nat.pow_zero, Nat.div_one]

/-- STATUS as the sum of its fields, each at its place (R35). -/
theorem toNat_statusWord (s : State) :
    s.statusWord.toNat = s.regs.sticky.toNat * 256 + (if s.idle then 8 else 0) + (if s.cfgErr then 4 else 0)
      + s.sync.state.code.toNat := by
  rw [State.statusWord]
  simp only [toNat_append_add, BitVec.toNat_ofBool, BitVec.toNat_ofNat]
  cases s.idle <;> cases s.cfgErr <;> simp <;> omega

/-- The reserved indices and CMD read 0 (R337). -/
theorem readReg_of_reserved (s : State) {k : BitVec 4} (h : 13 ≤ k.toNat) : s.readReg k = 0#32 := by
  unfold State.readReg
  split
  case h_14 => rfl
  all_goals omega

/-- Settles O17: the reply is `readReg`'s value, which the index picks. -/
theorem regReadReturns : Obligations.RegReadReturns := by
  refine fun k s => ⟨encode_regRd k, s.readReg k, rfl, fun h => ?_, fun h => ?_, fun h => ?_, fun h => ?_, fun h => ?_,
    fun h => ?_, fun h => ?_, fun h => ?_, fun h => ?_, fun h => ?_, fun h => ?_, fun h => ?_, fun h => ?_,
    readReg_of_reserved s⟩
  all_goals simp only [State.readReg, h]
  · exact toNat_setWidth_extractLsb' _ (by decide)
  · exact toNat_setWidth_extractLsb' _ (by decide)
  · exact toNat_setWidth_extractLsb' _ (by decide)
  · exact toNat_setWidth_extractLsb' _ (by decide)
  · rw [toNat_statusWord]
    cases s.sync.state <;> rfl

/-! ### Writing a register (R338) -/

/-- The counters and the reserved indices ignore a write. -/
theorem writeReg_of_readOnly (s : State) {k : BitVec 4} (v : Word) (h5 : 5 ≤ k.toNat) (h14 : k.toNat ≤ 14) :
    s.writeReg k v = s := by
  unfold State.writeReg
  split
  case h_7 => rfl
  all_goals omega

/-- A value from 4 on names no command (R343). -/
theorem command_of_four_le (s : State) {v : Word} (h : 4 ≤ v.toNat) : s.command v = s.raiseEvent .cmdErr := by
  rcases command_cases s v with ⟨rfl, -⟩ | ⟨rfl, -⟩ | ⟨rfl, -⟩ | ⟨rfl, -⟩ | ⟨-, hc⟩
  · exact absurd h (by decide)
  · exact absurd h (by decide)
  · exact absurd h (by decide)
  · exact absurd h (by decide)
  · exact hc

/-- A register write of index 15 that names no command sets CMD_ERR alone (R343). -/
theorem exec_regWr_reserved (s : State) {v : Word} (h : 4 ≤ v.toNat) :
    exec (.regWr 15#4 v) s = .next (s.raiseEvent .cmdErr) :=
  congrArg _ (command_of_four_le s h)

/-- Settles O18: the RW registers keep their defined bits, a sticky bit survives unless it is written as 1, and index
15 is the command that the value names. -/
theorem regWriteStores : Obligations.RegWriteStores := by
  intro v s
  have hv {n : Nat} (h : v.toNat = n) : v = BitVec.ofNat 32 n := by simp [← h]
  refine ⟨⟨_, toNat_setWidth_extractLsb' v (by decide), rfl⟩, ⟨_, toNat_setWidth_extractLsb' v (by decide), rfl⟩,
    ⟨_, toNat_setWidth_extractLsb' v (by decide), rfl⟩, ⟨_, toNat_setWidth_extractLsb' v (by decide), rfl⟩,
    ⟨_, clearSticky_getLsbD s v, rfl⟩, fun k h5 h14 => congrArg _ (writeReg_of_readOnly s v h5 h14),
    fun k => encode_regWr k v, fun h => ?_, fun h => ?_, fun h => ?_, fun h => ?_, exec_regWr_reserved s⟩
  · rw [hv h]; rfl
  · rw [hv h]; rfl
  · rw [hv h]; rfl
  · rw [hv h]; rfl

/-- Settles O22: a value with a bit above its code, or a code from 4 on, is at least 4. -/
theorem reservedCommandOnlyFlags : Obligations.ReservedCommandOnlyFlags :=
  fun _ s h => exec_regWr_reserved s (by omega)

/-! ### Commands (R339 to R342) -/

/-- Settles O19: the synchronizer's reset state and the empty VC table are what the commands set. -/
theorem commandsTakeEffect : Obligations.CommandsTakeEffect :=
  ⟨rfl, rfl, rfl, fun _ => ⟨rfl, rfl, [], VcTable.last_nil, rfl⟩⟩

/-- CFG_ERR needs SYNC_EN, which a reset clears (R36, R400). -/
theorem cfgErr_resetBlock (s : State) : s.resetBlock.cfgErr = false := by
  have hen : s.resetBlock.syncEn = false := BitVec.getLsbD_zero
  rw [State.cfgErr, hen, Bool.false_and, Bool.false_and]

/-- No unit operation is enabled without an input item, and a reset empties the ports (R37, R400). -/
theorem idle_resetBlock (s : State) : s.resetBlock.idle = true := rfl

theorem statusWord_resetBlock (s : State) : s.resetBlock.statusWord = 8#32 := by
  rw [State.statusWord, idle_resetBlock, cfgErr_resetBlock]
  show 0#18 ++ 0#6 ++ 0#4 ++ BitVec.ofBool true ++ BitVec.ofBool false ++ 0#2 = 8#32
  decide

/-- Settles O20: both resets are `resetBlock`, whose pieces are R400's and which leaves STATUS with IDLE alone. -/
theorem softResetIsReset : Obligations.SoftResetIsReset :=
  ⟨rfl, fun s => ⟨s.resetBlock, rfl, rfl, rfl, rfl, rfl, rfl, rfl, rfl, rfl, rfl, rfl, rfl, rfl, rfl, rfl,
    rfl, rfl, rfl, rfl, VcTable.last_nil, rfl, statusWord_resetBlock s, cfgErr_resetBlock s, idle_resetBlock s,
    fun _ => readReg_of_reserved s.resetBlock, rfl, rfl, rfl, rfl⟩⟩

end Sys2Proof.Machine
end

section
/-! PROOFS, what can stop the block (R365): an over-long push, and nothing else (O43), so that a host program without
one runs on (O42); and what a unit's step leaves alone (O45). -/

namespace Sys2Proof.Machine

/-! ### What every operation leaves alone -/

/-- `t` has the build parameters, the host's program and the turns of `s`: what stands outside the block, but for the
replies. -/
structure KeepsProgram (s t : State) : Prop where
  params : t.params = s.params
  pending : t.host.pending = s.host.pending
  schedule : t.schedule = s.schedule
  tick : t.tick = s.tick

theorem keepsProgram_refl (s : State) : KeepsProgram s s := ⟨rfl, rfl, rfl, rfl⟩

theorem Change.apply_keepsProgram (c : Change) (s : State) : KeepsProgram s (c.apply s) := by
  cases c <;> exact ⟨rfl, rfl, rfl, rfl⟩

theorem command_keepsProgram (s : State) (v : Word) : KeepsProgram s (s.command v) := by
  rcases command_cases s v with ⟨-, h⟩ | ⟨-, h⟩ | ⟨-, h⟩ | ⟨-, h⟩ | ⟨-, h⟩ <;> rw [h] <;> exact ⟨rfl, rfl, rfl, rfl⟩

theorem writeReg_keepsProgram (s : State) (k : BitVec 4) (v : Word) : KeepsProgram s (s.writeReg k v) := by
  rcases writeReg_cases s k v with ⟨r, h, -⟩ | ⟨-, h⟩ | ⟨-, h⟩ <;> rw [h]
  · exact ⟨rfl, rfl, rfl, rfl⟩
  · exact ⟨rfl, rfl, rfl, rfl⟩
  · exact command_keepsProgram s v

/-- A host transaction reaches the ports, the registers, the resettable state and the replies. -/
theorem effect_host_keepsProgram {i : Instr} (s : State) (hi : agentOf i = .host) : KeepsProgram s (effect i s) := by
  cases i with
  | regWr k v => exact writeReg_keepsProgram s k v
  | syncByte | syncEnd | syncIoErr | pnData | pnEnd | pnIoErr | fpData | fpEnd | fpIoErr | tcDecode => cases hi
  | _ => exact ⟨rfl, rfl, rfl, rfl⟩

theorem effect_keepsProgram {i : Instr} {s : State} (hg : guard i s = true) : KeepsProgram s (effect i s) := by
  cases hu : isUnit i with
  | true =>
    obtain ⟨c, -, hc⟩ := effect_change hu hg
    exact hc s (.refl _ s) ▸ c.apply_keepsProgram s
  | false => exact effect_host_keepsProgram s (by simpa [isUnit] using hu)

/-! ### What can stop (R321, R365) -/

/-- An operation whose item its port can carry goes on: it waits, or has its effect. -/
theorem exec_next_of_admits {i : Instr} {s : State} (ha : admits i s = true) :
    ∃ t, exec i s = .next t ∧ KeepsProgram s t := by
  cases hg : guard i s with
  | false => exact ⟨s, exec_of_not_guard ha hg, keepsProgram_refl s⟩
  | true => exact ⟨effect i s, exec_of_guard ha hg, effect_keepsProgram hg⟩

/-- Settles O43: an operation that its port admits is a guarded step, and no guarded step refuses. -/
theorem onlyOverlongPushesStop : Obligations.OnlyOverlongPushesStop := by
  refine fun i s => ⟨fun ha => ?_, exec_of_not_admits i s⟩
  obtain ⟨t, he, hk⟩ := exec_next_of_admits ha
  exact ⟨t, he, hk.params, hk.pending, hk.schedule, hk.tick⟩

/-! ### The frame of a unit's step (R361, R370) -/

theorem Change.apply_sync_of_ne {c : Change} (h : c.agent ≠ .sync) (s : State) : (c.apply s).sync = s.sync :=
  (Change.apply_keepsSync h s).1

theorem Change.apply_vc_of_ne {c : Change} (h : c.agent ≠ .fp) (s : State) : (c.apply s).vc = s.vc := by
  cases c with
  | fp => exact absurd rfl h
  | _ => rfl

theorem Change.apply_host (c : Change) (s : State) : (c.apply s).host = s.host := by
  cases c <;> rfl

/-- Settles O45: a unit's step is a wait or a change of its own unit, and a change adds to the counters and flags
alone. -/
theorem unitsOnlyReadConfiguration : Obligations.UnitsOnlyReadConfiguration := by
  intro i s t hu he
  rcases exec_eq_next he with rfl | ⟨-, hg, rfl⟩
  · exact ⟨rfl, rfl, rfl, rfl, rfl, fun _ => rfl, fun _ => rfl⟩
  · obtain ⟨c, hc, hchange⟩ := effect_change hu hg
    rw [hchange s (.refl _ s), ← hc]
    have hconfig := c.apply_config s
    simp only [Regs.config, Prod.mk.injEq] at hconfig
    obtain ⟨hctrl, hsize, hmo, htl⟩ := hconfig
    exact ⟨hctrl, hsize, hmo, htl, c.apply_host s, fun h => c.apply_sync_of_ne h s, fun h => c.apply_vc_of_ne h s⟩

/-! ### A good host program (R104, R321) -/

/-- What a port can carry depends on the build parameters alone (R321). -/
theorem admits_congr {s t : State} (h : t.params = s.params) (i : Instr) : admits i t = admits i s := by
  cases i <;> simp only [admits, h]

/-- A good program stays good where it gets shorter. -/
theorem State.HostProgramOk.of_subset {s t : State} (h : s.HostProgramOk) (hp : t.params = s.params)
    (hq : t.host.pending ⊆ s.host.pending) : t.HostProgramOk := by
  intro x hx
  obtain ⟨i, hd, hi, ha⟩ := h x (hq hx)
  exact ⟨i, hd, hi, (admits_congr hp i).trans ha⟩

theorem KeepsProgram.hostProgramOk {s t : State} (hk : KeepsProgram s t) (h : s.HostProgramOk) : t.HostProgramOk :=
  h.of_subset hk.params (hk.pending ▸ List.Subset.refl _)

theorem advance_hostProgramOk {s : State} (h : s.HostProgramOk) : s.advance.HostProgramOk := by
  unfold State.advance
  split <;> exact h

theorem issue_params (a : Agent) (i : Instr) (s : State) : (issue a i s).params = s.params := by
  unfold issue
  split
  · rfl
  · cases a <;> rfl

/-- Issuing an operation at most takes the first transaction from the host's program. -/
theorem issue_pending_subset (a : Agent) (i : Instr) (s : State) :
    (issue a i s).host.pending ⊆ s.host.pending := by
  unfold issue
  split
  · exact List.Subset.refl _
  · cases a with
    | host => exact List.tail_subset _
    | _ => exact List.Subset.refl _

/-- Under a good host program every agent presents nothing, or an operation of its own that the ports can carry. -/
theorem State.HostProgramOk.fetch_cases {s : State} (h : s.HostProgramOk) (a : Agent) :
    fetch a s = none
      ∨ ∃ x i, fetch a s = some x ∧ decode x = .ok i ∧ agentOf i = a ∧ admits i s = true := by
  by_cases ha : a = .host
  · subst ha
    cases hp : s.host.pending with
    | nil => exact .inl (congrArg List.head? hp)
    | cons x rest =>
      obtain ⟨i, hd, hi, hadm⟩ := h x (hp ▸ List.mem_cons_self)
      exact .inr ⟨x, i, fetch_host hp, hd, hi, hadm⟩
  · rcases fetch_unit ha s with hf | ⟨x, i, hf, hd, hi⟩
    · exact .inl hf
    · exact .inr ⟨x, i, hf, hd, hi, admits_of_agentOf_ne_host (hi ▸ ha) s⟩

/-- Under a good host program every agent's turn goes on, and the program stays good. -/
theorem State.HostProgramOk.agentStep_next {s : State} (h : s.HostProgramOk) (a : Agent) :
    ∃ t, agentStep a s = .next t ∧ t.HostProgramOk := by
  rcases h.fetch_cases a with hf | ⟨x, i, hf, hd, hi, ha⟩
  · exact ⟨s, agentStep_of_fetch_none hf, h⟩
  · have hp : (issue a i s).params = s.params := issue_params a i s
    obtain ⟨t, he, hk⟩ := exec_next_of_admits ((admits_congr hp i).trans ha)
    exact ⟨t, (agentStep_of_decode hf hd hi).trans he, hk.hostProgramOk (h.of_subset hp (issue_pending_subset a i s))⟩

/-- A run of one step more is safe if the step goes on to a safe run. -/
theorem safeRun_succ {k : Nat} {s t : State} (h : s.Inv) (hs : step s = .next t) (ht : safeRun k t) :
    safeRun (k + 1) s := by
  rw [safeRun, hs]
  exact ⟨h, ht⟩

/-- Settles O42, by induction on the number of steps: each step goes on and keeps the invariant and the good
program. -/
theorem goodHostProgramsNeverStop : Obligations.GoodHostProgramsNeverStop := by
  intro k
  induction k with
  | zero => exact fun s h _ => h
  | succ k ih =>
    intro s h hok
    obtain ⟨t, hs, ht⟩ := (advance_hostProgramOk hok).agentStep_next s.turn
    exact safeRun_succ h hs (ih t (stepKeepsTheInvariant s t h hs) ht)

end Sys2Proof.Machine
end

section
/-! PROOFS, the reset state is that of CMD.SOFT_RESET and has the invariant (O21, O41); and the work before the units:
an enabled unit step lowers it (O50), so that the units' turns come to IDLE (O51). -/

namespace Sys2Proof.Machine

/-! ### The reset state (R400) -/

/-- Settles O21: the command sets the block's pieces to the constants that the reset state is made of. -/
theorem resetMatchesSoftReset : Obligations.ResetMatchesSoftReset := by
  intro s t h
  obtain rfl : s.resetBlock = t := Host.Outcome.next.inj h
  exact ⟨rfl, rfl, rfl, rfl⟩

/-- Settles O41: the reset values of the registers, of SYNC and of the ports have their parts of the invariant, and the
empty VC table is in order. -/
theorem resetHasTheInvariant : Obligations.ResetHasTheInvariant :=
  ⟨Regs.inv_reset, SyncUnit.inv_reset _, Ports.inv_reset _, List.Pairwise.nil⟩

/-! ### Work (R403, R415) -/

/-- A change takes an item from its unit's input port, which weighs more than all that it appends to the input ports of
the other units: an SI item weighs more than a PI item, and that more than an FI item. -/
theorem Change.work_apply_lt (c : Change) {s : State} (h : s.HasInput c.agent) : (c.apply s).work < s.work := by
  cases c with
  | sync d u chained x =>
    have hsi : 0 < s.ports.si.length := List.length_pos_iff.mpr h
    have hx : (if chained then x.toList else []).length ≤ 1 := by cases chained <;> cases x <;> simp
    simp only [State.work, Change.apply, List.length_append, List.length_tail]
    omega
  | pn chained x =>
    have hpi : 0 < s.ports.pi.length := List.length_pos_iff.mpr h
    have hx : (if chained then [x] else []).length ≤ 1 := by cases chained <;> simp
    simp only [State.work, Change.apply, List.length_append, List.length_tail]
    omega
  | fp d v gap x =>
    have hfi : 0 < s.ports.fi.length := List.length_pos_iff.mpr h
    simp only [State.work, Change.apply, List.length_tail]
    omega
  | tc d x =>
    have hti : 0 < s.ports.ti.length := List.length_pos_iff.mpr h
    simp only [State.work, Change.apply, List.length_tail]
    omega

/-- Settles O50: an enabled unit operation is a change of its unit, whose input port holds an item. -/
theorem unitStepsUseUpWork : Obligations.UnitStepsUseUpWork := by
  intro s i hu hg
  obtain ⟨c, hc, hchange⟩ := effect_change hu hg
  have hlt : (c.apply s).work < s.work := c.work_apply_lt (hc ▸ hasInput_of_guard hu hg)
  exact ⟨c.apply s, hchange s (.refl _ s) ▸ exec_unit hu hg, hlt⟩

/-! ### The turn of an enabled unit (R100) -/

/-- The unit of an enabled operation presents that operation: the guard names the head item that selects it. -/
theorem fetch_of_guard {i : Instr} {s : State} (hu : isUnit i = true) (hg : guard i s = true) :
    ∃ x, fetch (agentOf i) s = some x ∧ decode x = .ok i := by
  cases i with
  | syncByte b =>
    obtain ⟨-, hq, -⟩ := (guardSyncByte_iff b s).mp hg
    exact ⟨_, congrArg (Option.map _) hq, decode_siStep _⟩
  | syncEnd =>
    obtain ⟨-, hq, -⟩ := (guardSyncEnd_iff s).mp hg
    exact ⟨_, congrArg (Option.map _) hq, decode_siStep _⟩
  | syncIoErr =>
    obtain ⟨-, hq, -⟩ := (guardSyncIoErr_iff s).mp hg
    exact ⟨_, congrArg (Option.map _) hq, decode_siStep _⟩
  | pnData =>
    obtain ⟨⟨B, hq⟩, -⟩ := (guardPnData_iff s).mp hg
    exact ⟨_, congrArg (Option.map _) hq, decode_pnStep (.data B)⟩
  | pnEnd =>
    obtain ⟨hq, -⟩ := (guardPnEnd_iff s).mp hg
    exact ⟨_, congrArg (Option.map _) hq, decode_pnStep _⟩
  | pnIoErr =>
    obtain ⟨hq, -⟩ := (guardPnIoErr_iff s).mp hg
    exact ⟨_, congrArg (Option.map _) hq, decode_pnStep _⟩
  | fpData =>
    obtain ⟨⟨B, hq⟩, -⟩ := (guardFpData_iff s).mp hg
    exact ⟨_, congrArg (Option.map _) hq, decode_fpStep (.data B)⟩
  | fpEnd =>
    obtain ⟨hq, -⟩ := (guardFpEnd_iff s).mp hg
    exact ⟨_, congrArg (Option.map _) hq, decode_fpStep _⟩
  | fpIoErr =>
    obtain ⟨hq, -⟩ := (guardFpIoErr_iff s).mp hg
    exact ⟨_, congrArg (Option.map _) hq, decode_fpStep _⟩
  | tcDecode =>
    obtain ⟨B, q, hq, -⟩ := tcDecodeBody_of_guard s hg
    exact ⟨_, congrArg (Option.map _) (congrArg List.head? hq), decode_tcStep (.tc B)⟩
  | _ => cases hu

/-- No unit reads the schedule. -/
theorem SameFor.withSchedule (a : Agent) (s : State) (turns : List Agent) :
    SameFor a s { s with schedule := turns } := by
  constructor <;> simp

theorem Change.apply_withSchedule (c : Change) (s : State) (turns : List Agent) :
    c.apply { s with schedule := turns } = { c.apply s with schedule := turns } := by
  cases c <;> rfl

/-- The turn of a unit with an enabled operation is that operation's change, under any turns to come. -/
theorem exists_change_of_turn {i : Instr} {s : State} (hu : isUnit i = true) (hg : guard i s = true) :
    ∃ c : Change, c.agent = agentOf i
      ∧ ∀ rest, step { s with schedule := agentOf i :: rest } = .next { c.apply s with schedule := rest } := by
  obtain ⟨c, hc, hchange⟩ := effect_change hu hg
  refine ⟨c, hc, fun rest => ?_⟩
  have hsame : SameFor (agentOf i) s { s with schedule := rest } := .withSchedule _ s rest
  have hg' : guard i { s with schedule := rest } = true := guard_of_sameFor hu hsame hg
  obtain ⟨x, hf, hd⟩ := fetch_of_guard hu hg'
  calc step { s with schedule := agentOf i :: rest }
    _ = exec i { s with schedule := rest } := step_of_unit (by simpa [isUnit] using hu) rfl hf hd rfl
    _ = .next (effect i { s with schedule := rest }) := exec_unit hu hg'
    _ = .next { c.apply s with schedule := rest } := by rw [hchange _ hsame, c.apply_withSchedule]

/-- Where IDLE is 0 some unit operation is enabled (R37). -/
theorem exists_guard_of_not_idle {s : State} (h : ¬ s.idle = true) : ∃ i, isUnit i = true ∧ guard i s = true := by
  simpa [idle_iff] using h

/-- Settles O51, by induction on the work: where IDLE is 0, a unit with an enabled operation is given the turn, which
lowers the work by one at least. -/
theorem unitsReachIdle : Obligations.UnitsReachIdle := by
  intro s
  induction hw : s.work using Nat.strong_induction_on generalizing s with
  | _ n ih =>
    subst hw
    by_cases hidle : s.idle = true
    · exact ⟨[], Nat.zero_le _, by simp, { s with schedule := [] }, rfl, hidle, rfl⟩
    · obtain ⟨i, hu, hg⟩ := exists_guard_of_not_idle hidle
      obtain ⟨c, hc, hstep⟩ := exists_change_of_turn hu hg
      have hlt : (c.apply s).work < s.work := c.work_apply_lt (hc ▸ hasInput_of_guard hu hg)
      obtain ⟨turns, hlen, hunits, t, hrun, ht, hhost⟩ := ih _ hlt (c.apply s) rfl
      refine ⟨agentOf i :: turns, hlen.trans_lt hlt, ?_, t, ?_, ht, hhost.trans (c.apply_host s)⟩
      · exact List.forall_mem_cons.mpr ⟨by simpa [isUnit] using hu, hunits⟩
      · exact (run_succ (hstep turns) turns.length).trans hrun

end Sys2Proof.Machine
end
